-- ==== Sys2Proof/Word.lean ====
section
/-!
DEFINITION. The widths of CSMUX: what the spec treats as bits, one name per width
(spec/00_scope.md R7, R10; spec/30_encoding.md R81, R89, R99).
-/

namespace Sys2Proof

/-- An unsigned 8-bit value (R10). -/
abbrev Byte := BitVec 8

/-- A transaction address, `ADDR_W` = 24 bits (R7). -/
abbrev Addr := BitVec 24

/-- A decoder output number 0 .. 7, `S[2] ++ S[1] ++ S[0]` (R11, R29). -/
abbrev Chan := BitVec 3

/-- A command word `CW`, 48 bits (R89). -/
abbrev CommandWord := BitVec 48

/-- A wire frame `F`, 40 bits with B0 most significant (R81). -/
abbrev FrameWord := BitVec 40

/-- A response word `RSP`, 16 bits (R99). -/
abbrev ResponseWord := BitVec 16

end Sys2Proof
end

