-- ==== Sys2Proof/Config.lean ====
section
/-!
DEFINITION. What is fixed for one CSMUX: the parameters of spec/00_scope.md R7, the open ones as
the fields of `Config`, and the free values the spec leaves open (R12 `draw`), which are opaque
constants, so that nothing can be proved of their value.
-/

namespace Sys2Proof

/-- The three select-line levels `(S[0], S[1], S[2])`; `true` is level 1, electrical HIGH (R22). -/
structure SelLines where
  s0 : Bool
  s1 : Bool
  s2 : Bool
  deriving DecidableEq, Repr

/-- The parameters of R7 marked open. They are arguments of the model: `State` carries one `Config`
and no step changes it. -/
structure Config where
  /-- `N_CH`: the channels in use; valid channels are 0 .. N_CH-1. -/
  nCh : Nat
  /-- `EN_ACTIVE_HIGH`: the electrical level of the enable pin that enables the decoder (R21, R216). -/
  enActiveHigh : Bool
  /-- `DUMMY_BYTE`: sent while a READ clocks in its result (R84). -/
  dummyByte : Byte
  /-- `CAP[k]`: capacity in bytes of the device on channel `k` (R51). -/
  cap : Vector Nat 8
  /-- `RESET_SEL`: the select lines after reset (R36). -/
  resetSel : SelLines
  deriving DecidableEq, Repr

namespace Config

/-- The ranges R7 gives the open parameters: `N_CH` in 1 .. 8 and `CAP[k]` in 1 .. 2^24. -/
abbrev wf (c : Config) : Prop :=
  1 ≤ c.nCh ∧ c.nCh ≤ 8 ∧ ∀ n ∈ c.cap.toList, 1 ≤ n ∧ n ≤ 2 ^ 24

/-- The values R7 gives this hardware. `CAP[k]` has none in the spec: the whole 24-bit range is taken
(DESIGN CHOICE, log entry 4; unsafe). -/
def default : Config where
  nCh := 4
  enActiveHigh := true
  dummyByte := 0x00#8
  cap := Vector.replicate 8 (2 ^ 24)
  resetSel := ⟨false, false, false⟩

/-- `OPC_WRITE` (R7, R82). -/
abbrev opcWrite : Byte := 0x02#8

/-- `OPC_READ` (R7, R82). -/
abbrev opcRead : Byte := 0x03#8

/-- `draw(8)` (R12, R70): an unconstrained byte chosen by the environment, the `n`-th one taken. -/
opaque freeByte : Nat → Byte

/-- The locations of ONE device that change, where the spec leaves what becomes of that device's
contents open: the `n`-th time this happens (R51, R67, R72). -/
opaque freeCells : Nat → List (Addr × Byte)

/-- The bytes a device's frame buffer holds after a bus fault (R67): the `n`-th time this happens. -/
opaque freeFrame : Nat → List Byte

/-- What a location that nothing has written holds: any value, but stable (R36, R206). -/
opaque initialByte : Chan → Addr → Byte

/-- The device function of R51 for a store at or above the capacity: which locations of the device
change, given the device, its written contents, the address and the byte. -/
opaque storeBeyondCapacity : Chan → List Host.Cell → Addr → Byte → List (Addr × Byte)

/-- The device function of R51 for a load at or above the capacity: the byte that comes back. -/
opaque answerBeyondCapacity : Chan → List Host.Cell → Addr → Byte

end Config

end Sys2Proof
end

