-- ==== Sys2Proof/Syntax.lean ====
section
/-!
DEFINITION. The instructions of CSMUX: one constructor per row of spec/opcode_table.json, the four
commands, the two named reserved operations and the two wire frames; the pseudo-instructions of
spec/30_encoding.md R98; the written form of R97.
-/

namespace Sys2Proof

/-- One constructor per row of the opcode table. A command carries every field of its command word,
the ignored ones too, because the boundary step latches all of them (R91, R152). The address of
WRITE and READ is an unbounded number, so that an operand wider than 24 bits can be presented and
refused with InvalidAddress, as R172 demands of such a model. -/
inductive Instr where
  /-- IDLE, OP 0x00 (R112); all three fields are ignored. -/
  | idle (ch : Byte) (addr : Addr) (data : Byte)
  /-- WRITE, OP 0x02 (R131). -/
  | write (ch : Byte) (addr : Nat) (data : Byte)
  /-- READ, OP 0x03 (R132); the data field is ignored. -/
  | read (ch : Byte) (addr : Nat) (data : Byte)
  /-- SELECT, OP 0x04 (R111); address and data are ignored. -/
  | select (ch : Byte) (addr : Addr) (data : Byte)
  /-- The reserved OP 0x01, the device family's write-status (R94). -/
  | reserved01 (ch : Byte) (addr : Addr) (data : Byte)
  /-- The reserved OP 0x05, the device family's read-status (R94). -/
  | reserved05 (ch : Byte) (addr : Addr) (data : Byte)
  /-- The wire frame of a write (R81): the device's instruction, executed at its fifth byte (R68). -/
  | writeFrame (addr : Addr) (data : Byte)
  /-- The wire frame of a read (R81); the device ignores the dummy byte (R68). -/
  | readFrame (addr : Addr) (dummy : Byte)
  deriving DecidableEq, Repr

/-- The instructions that reach CSMUX as a command word (R80); the other two are frames on the bus. -/
def Instr.isCommand : Instr → Bool
  | .idle _ _ _ => true
  | .write _ _ _ => true
  | .read _ _ _ => true
  | .select _ _ _ => true
  | .reserved01 _ _ _ => true
  | .reserved05 _ _ _ => true
  | .writeFrame _ _ => false
  | .readFrame _ _ => false

/-- The per-channel forms `WRITE<k>` and `READ<k>`, `k` in 0 .. 3 (R98). -/
inductive Pseudo where
  | writeK (k : Fin 4) (addr : Nat) (data : Byte)
  | readK (k : Fin 4) (addr : Nat)
  deriving DecidableEq, Repr

/-- The expansion of R98: `WRITE<k> addr, data` is `WRITE k, addr, data`, `READ<k> addr` is
`READ k, addr`, the ignored field zero. -/
def Pseudo.expand : Pseudo → Instr
  | .writeK k addr data => .write (BitVec.ofNat 8 k.val) addr data
  | .readK k addr => .read (BitVec.ofNat 8 k.val) addr 0x00#8

/-- `n` hexadecimal digits of `v`, the most significant first. -/
def hexDigits : Nat → Nat → String
  | 0, _ => ""
  | n + 1, v => hexDigits n (v / 16) ++ String.singleton (Nat.digitChar (v % 16)).toUpper

/-- The short written form of R97 for the four commands: `ch` decimal, `addr` six and `data` two
hexadecimal digits; none for an address with more than six. The other rows have no written form in
the spec. -/
def Instr.written : Instr → Option String
  | .idle _ _ _ => some "IDLE"
  | .write ch addr data =>
    if addr < 2 ^ 24 then
      some ("WRITE " ++ toString ch.toNat ++ ", " ++ hexDigits 6 addr ++ ", " ++ hexDigits 2 data.toNat)
    else none
  | .read ch addr _ =>
    if addr < 2 ^ 24 then some ("READ " ++ toString ch.toNat ++ ", " ++ hexDigits 6 addr) else none
  | .select ch _ _ => some ("SELECT " ++ toString ch.toNat)
  | .reserved01 _ _ _ => none
  | .reserved05 _ _ _ => none
  | .writeFrame _ _ => none
  | .readFrame _ _ => none

end Sys2Proof
end

