-- ==== Sys2Proof/WellFormed.lean ====
section
/-!
DEFINITION. Which instructions have an encoding (spec/30_encoding.md R81, R89) and which encoding
is the canonical one (R91).
-/

namespace Sys2Proof

/-- An instruction that some word of this CSMUX stands for: an address of WRITE or READ fits its 24
bits (R89), and the fifth byte of a read frame is `DUMMY_BYTE` (R81, R84). A channel at or above
`N_CH` is well formed: it must be presentable to be refused (R89). -/
def Instr.wf (cfg : Config) : Instr → Bool
  | .idle _ _ _ => true
  | .write _ addr _ => decide (addr < 2 ^ 24)
  | .read _ addr _ => decide (addr < 2 ^ 24)
  | .select _ _ _ => true
  | .reserved01 _ _ _ => true
  | .reserved05 _ _ _ => true
  | .writeFrame _ _ => true
  | .readFrame _ dummy => decide (dummy = cfg.dummyByte)

/-- The canonical encoding has every ignored field zero (R91). -/
def Instr.canonical : Instr → Bool
  | .idle ch addr data => decide (ch = 0 ∧ addr = 0 ∧ data = 0)
  | .write _ _ _ => true
  | .read _ _ data => decide (data = 0)
  | .select _ addr data => decide (addr = 0 ∧ data = 0)
  | .reserved01 _ _ _ => true
  | .reserved05 _ _ _ => true
  | .writeFrame _ _ => true
  | .readFrame _ _ => true

end Sys2Proof
end

