-- ==== Sys2Proof/Decode.lean ====
section
/-!
DEFINITION. Decoding and encoding of the two word formats: the 48-bit command word
(spec/30_encoding.md R89, R90, R94) and the 40-bit wire frame (R81 to R84). Decoding is total and
rejects by name.
-/

namespace Sys2Proof

/-- An encoded instruction: a command word at the command port or a frame on the bus (R80). -/
inductive Code where
  | command (cw : CommandWord)
  | frame (f : FrameWord)
  deriving DecidableEq, Repr

/-- Why a word is no instruction. -/
inductive DecodeError where
  /-- A reserved OP with no row of its own, 0x06 .. 0xFF (R94). -/
  | reservedOp (op : Byte)
  /-- A frame whose first byte is neither 0x02 nor 0x03; CSMUX never sends one (R82, R86). -/
  | unknownOpcode (opc : Byte)
  /-- Neither six bytes of a command word nor five bytes of a frame (R80, R96). -/
  | badLength (n : Nat)
  deriving DecidableEq, Repr

/-- The OP field, bits 47:40 (R89). -/
def cwOp (cw : CommandWord) : Byte := cw.extractLsb' 40 8

/-- The CH field, bits 39:32 (R89). -/
def cwCh (cw : CommandWord) : Byte := cw.extractLsb' 32 8

/-- The ADDR field, bits 31:8 (R89). -/
def cwAddr (cw : CommandWord) : Addr := cw.extractLsb' 8 24

/-- The DATA field, bits 7:0 (R89). -/
def cwData (cw : CommandWord) : Byte := cw.extractLsb' 0 8

/-- The command of a command word, by its OP field (R90, R94). -/
def decodeCommand (cw : CommandWord) : Except DecodeError Instr :=
  if cwOp cw = 0x00#8 then .ok (.idle (cwCh cw) (cwAddr cw) (cwData cw))
  else if cwOp cw = 0x02#8 then .ok (.write (cwCh cw) (cwAddr cw).toNat (cwData cw))
  else if cwOp cw = 0x03#8 then .ok (.read (cwCh cw) (cwAddr cw).toNat (cwData cw))
  else if cwOp cw = 0x04#8 then .ok (.select (cwCh cw) (cwAddr cw) (cwData cw))
  else if cwOp cw = 0x01#8 then .ok (.reserved01 (cwCh cw) (cwAddr cw) (cwData cw))
  else if cwOp cw = 0x05#8 then .ok (.reserved05 (cwCh cw) (cwAddr cw) (cwData cw))
  else .error (.reservedOp (cwOp cw))

/-- B0, the opcode byte, bits 39:32 of a frame (R81). -/
def frameOpc (f : FrameWord) : Byte := f.extractLsb' 32 8

/-- B1 ++ B2 ++ B3, the address, bits 31:8 of a frame (R81, R83). -/
def frameAddr (f : FrameWord) : Addr := f.extractLsb' 8 24

/-- B4, the data or dummy byte, bits 7:0 of a frame (R81, R84). -/
def frameLast (f : FrameWord) : Byte := f.extractLsb' 0 8

/-- The device's reading of a frame (R68, R82): the fifth byte of a read may hold any value, since the
device ignores it. -/
def decodeFrame (f : FrameWord) : Except DecodeError Instr :=
  if frameOpc f = Config.opcWrite then .ok (.writeFrame (frameAddr f) (frameLast f))
  else if frameOpc f = Config.opcRead then .ok (.readFrame (frameAddr f) (frameLast f))
  else .error (.unknownOpcode (frameOpc f))

/-- Decoding, total on every word of either format. -/
def decode : Code → Except DecodeError Instr
  | .command cw => decodeCommand cw
  | .frame f => decodeFrame f

/-- Five bytes as a frame, B0 first and most significant (R81). -/
def frameOfBytes (b0 b1 b2 b3 b4 : Byte) : FrameWord := b0 ++ b1 ++ b2 ++ b3 ++ b4

/-- Six bytes as a command word, the most significant first (R89). -/
def commandOfBytes (b0 b1 b2 b3 b4 b5 : Byte) : CommandWord := b0 ++ b1 ++ b2 ++ b3 ++ b4 ++ b5

/-- Decoding, total on any bytes (the most significant byte of the word first). -/
def decodeBytes : List Byte → Except DecodeError Instr
  | [b0, b1, b2, b3, b4] => decodeFrame (frameOfBytes b0 b1 b2 b3 b4)
  | [b0, b1, b2, b3, b4, b5] => decodeCommand (commandOfBytes b0 b1 b2 b3 b4 b5)
  | bs => .error (.badLength bs.length)

/-- `CW = OP ++ CH ++ ADDR ++ DATA` (R89). -/
def commandWord (op ch : Byte) (addr : Addr) (data : Byte) : CommandWord := op ++ ch ++ addr ++ data

/-- `F = B0 ++ ADDR ++ B4` (R81, R83). -/
def frameWord (opc : Byte) (addr : Addr) (last : Byte) : FrameWord := opc ++ addr ++ last

/-- The word of an instruction; none for an address that has no 24-bit encoding, which is never
truncated (R172). -/
def encode : Instr → Option Code
  | .idle ch addr data => some (.command (commandWord 0x00#8 ch addr data))
  | .write ch addr data =>
    if addr < 2 ^ 24 then some (.command (commandWord 0x02#8 ch (BitVec.ofNat 24 addr) data)) else none
  | .read ch addr data =>
    if addr < 2 ^ 24 then some (.command (commandWord 0x03#8 ch (BitVec.ofNat 24 addr) data)) else none
  | .select ch addr data => some (.command (commandWord 0x04#8 ch addr data))
  | .reserved01 ch addr data => some (.command (commandWord 0x01#8 ch addr data))
  | .reserved05 ch addr data => some (.command (commandWord 0x05#8 ch addr data))
  | .writeFrame addr data => some (.frame (frameWord Config.opcWrite addr data))
  | .readFrame addr dummy => some (.frame (frameWord Config.opcRead addr dummy))

/-- The frame a WRITE or READ puts on the bus (R81, R131, R132); no other instruction sends one. -/
def wireFrame (cfg : Config) : Instr → Option FrameWord
  | .write _ addr data =>
    if addr < 2 ^ 24 then some (frameWord Config.opcWrite (BitVec.ofNat 24 addr) data) else none
  | .read _ addr _ =>
    if addr < 2 ^ 24 then some (frameWord Config.opcRead (BitVec.ofNat 24 addr) cfg.dummyByte) else none
  | .idle _ _ _ => none
  | .select _ _ _ => none
  | .reserved01 _ _ _ => none
  | .reserved05 _ _ _ => none
  | .writeFrame _ _ => none
  | .readFrame _ _ => none

/-- The bytes of a frame in the order they are sent, B0 first (R81). -/
def frameBytes (f : FrameWord) : List Byte :=
  [f.extractLsb' 32 8, f.extractLsb' 24 8, f.extractLsb' 16 8, f.extractLsb' 8 8, f.extractLsb' 0 8]

/-- A word of the opcode table, numbered as the table numbers it: 48 bits are a command word, 40 bits
a wire frame. -/
def decodeTableWord (nbits w : Nat) : Option Instr :=
  if nbits = 48 then (decodeCommand (BitVec.ofNat 48 w)).toOption
  else if nbits = 40 then (decodeFrame (BitVec.ofNat 40 w)).toOption
  else none

end Sys2Proof
end

