-- ==== Sys2Proof/Machine/State.lean ====
section
/-!
DEFINITION. The state of CSMUX and of the environment its rules speak of, as plain data
(spec/10_state.md R20 to R36; spec/20_memory.md R50, R68), the events (spec/42_sequencer.md R150),
the reasons a step can stop, and the state after reset.
-/

namespace Sys2Proof.Machine

/-- The ten phases of R151, the values 0 .. 9 of the 4-bit register `PH` in this order. The values
10 .. 15 are excluded by type (R23, R159). -/
inductive Phase where
  | wait
  | setSel
  | enable
  | opc
  | a2
  | a1
  | a0
  | dat
  | release
  | respond
  deriving DecidableEq, Repr

/-- The events of R150. -/
inductive Event where
  /-- A command word is taken from the command port. -/
  | cmd (cw : CommandWord)
  /-- The three select lines are driven (R110). -/
  | lwSel (p : SelLines)
  /-- The enable line is driven to a logical level (R110). -/
  | lwEn (v : Bool)
  /-- One byte exchange: `tx` sent, `rx` received (R130). -/
  | xf (tx rx : Byte)
  /-- An abort request is taken (R154). -/
  | abt
  /-- The response word is delivered: `ST` and `RD` (R157). -/
  | rsp (st rd : Byte)
  /-- Reset (R200). -/
  | rst
  deriving DecidableEq, Repr

/-- The levels of the environment's inputs at one step (R160): the abort request (R154), the reset
input (R200), and whether the bus or the device fails in this step (R67). -/
structure EnvIn where
  abort : Bool
  reset : Bool
  busFault : Bool
  deriving DecidableEq, Repr

/-- Every input low: no abort, no reset, a fault-free bus. -/
def EnvIn.quiet : EnvIn := ⟨false, false, false⟩

/-- The memory of all devices: (location, byte) pairs, locations strictly rising. The location of
address `a` of the device on channel `k` is `k * 2^24 + a` (log entry 2). -/
abbrev Memory := List Host.Cell

/-- The canonical form: locations strictly rising and inside the eight spaces of 2^24 bytes (R50).
An unlisted location holds no written value, so no entry repeats what an unlisted one reads as. -/
abbrev Memory.wf (m : Memory) : Prop :=
  m.Pairwise (fun x y => x.1 < y.1) ∧ ∀ c ∈ m, c.1 < 8 * 2 ^ 24

/-- The frame buffers `fr[0]` .. `fr[7]` (R68). -/
abbrev Frames := Vector (List Byte) 8

structure State where
  /-- The open parameters (R7); no step changes them. -/
  cfg : Config
  /-- `EN`, the logical level of the enable line (R21). -/
  en : Bool
  /-- `S[0]`, `S[1]`, `S[2]` (R22). -/
  selLines : SelLines
  /-- `PH` (R23). -/
  ph : Phase
  /-- `OPL`, the OP field of the running command (R24). -/
  opl : Byte
  /-- `CH` (R24). -/
  ch : Byte
  /-- `ADDR` (R24). -/
  addr : Addr
  /-- `WD` (R24). -/
  wd : Byte
  /-- `RD` (R25). -/
  rd : Byte
  /-- `ST` (R26). -/
  st : Byte
  /-- `DEV[k][a]` of every device (R50). -/
  mem : Memory
  /-- `fr[k]`, the frame position of every device (R31, R68). -/
  fr : Frames
  /-- The byte the latest transfer returned, the result of the primitive (R130). -/
  rx : Byte
  /-- The command words the host will present, the next one first (R158). -/
  port : List CommandWord
  /-- The environment's inputs at the coming steps, the next one first; all low when none is listed. -/
  env : List EnvIn
  /-- The model's own: every event emitted so far, the oldest first (R150; log entry 5). -/
  trace : List Event
  /-- The model's own: how many free values have been taken (log entry 6). -/
  draws : Nat
  deriving DecidableEq, Repr

/-- Why the machine stops with a fault. -/
inductive Fault where
  /-- Raised by the sequencer in phase 2 or 7 when `OPL` holds a value for which the phase table of
  R151 has no row. No run from a state with `PH = 0` reaches it. Safe: the machine stops. -/
  | noPhaseRow
  deriving DecidableEq, Repr

/-- Why the model gives no meaning. -/
inductive Refusal where
  /-- Raised by an arm of `exec` whose instruction has no meaning yet; no arm is in that case. Safe. -/
  | notModelled (mnemonic : String)
  deriving DecidableEq, Repr

/-- No device has received a byte (R68). -/
def noFrames : Frames := Vector.replicate 8 []

/-- The state after reset (R36) with the parameters of R7. `EN`, `S`, `PH`, `ST` are the spec's values.
`OPL`, `CH`, `ADDR`, `WD`, `RD` and the transfer's result have none in the spec and are zero (DESIGN
CHOICE, log entry 1; unsafe); nothing is listed in memory (log entry 2), no command is presented and
every input is low (log entry 3). -/
def State.reset : State where
  cfg := Config.default
  en := false
  selLines := Config.default.resetSel
  ph := .wait
  opl := 0
  ch := 0
  addr := 0
  wd := 0
  rd := 0
  st := 0
  mem := []
  fr := noFrames
  rx := 0
  port := []
  env := []
  trace := []
  draws := 0

end Sys2Proof.Machine
end

