-- ==== Sys2Proof/Machine/Operands.lean ====
section
/-!
DEFINITION. Operands: the pattern of a channel, the bytes of an address, the location a
transaction reaches (spec/30_encoding.md R83, R88; spec/41_memory_transactions.md R135, R140).
-/

namespace Sys2Proof.Machine

/-- `PAT(c) = (c[0], c[1], c[2])` (R28, R88, R119). -/
def pat (c : Byte) : SelLines := ⟨c.getLsbD 0, c.getLsbD 1, c.getLsbD 2⟩

/-- The number `S[2] ++ S[1] ++ S[0]` the select lines show (R11, R29). -/
def lineCode (p : SelLines) : Chan := BitVec.ofBool p.s2 ++ BitVec.ofBool p.s1 ++ BitVec.ofBool p.s0

/-- The decoder output a channel number selects; nothing is lost for a valid channel, `c < N_CH <= 8`
(R140). -/
def chanOf (c : Byte) : Chan := c.setWidth 3

/-- `A2 = ADDR[23:16]` (R83). -/
def addrByte2 (a : Addr) : Byte := a.extractLsb' 16 8

/-- `A1 = ADDR[15:8]` (R83). -/
def addrByte1 (a : Addr) : Byte := a.extractLsb' 8 8

/-- `A0 = ADDR[7:0]` (R83). -/
def addrByte0 (a : Addr) : Byte := a.extractLsb' 0 8

/-- The place of `DEV[k][a]` in the one list of cells: the spaces of R50 laid end to end. -/
def location (k : Chan) (a : Addr) : Nat := k.toNat * 2 ^ 24 + a.toNat

/-- `CAP[k]` (R51). -/
def capOf (cfg : Config) (k : Chan) : Nat := cfg.cap[k.toNat]'k.isLt

/-- The address is one the device on channel `k` implements (R51). -/
def inCapacity (cfg : Config) (k : Chan) (a : Addr) : Bool := decide (a.toNat < capOf cfg k)

end Sys2Proof.Machine
end

