-- ==== Sys2Proof/Machine/Flags.lean ====
section
/-!
DEFINITION. CSMUX has no flags (spec/10_state.md R27). What takes their place is the status code of
a command (spec/60_exceptions.md R177) and the phase a command moves to (spec/42_sequencer.md R151).
-/

namespace Sys2Proof.Machine

/-- Status 0, OK (R177). -/
def statusOk : Byte := 0#8

/-- Status 1, InvalidChannel (R171). -/
def statusInvalidChannel : Byte := 1#8

/-- Status 2, InvalidAddress (R172). -/
def statusInvalidAddress : Byte := 2#8

/-- Status 3, IllegalCommand (R173). -/
def statusIllegalCommand : Byte := 3#8

/-- Status 4, SelectConflict (R174). -/
def statusSelectConflict : Byte := 4#8

/-- Status 5, Aborted (R175). -/
def statusAborted : Byte := 5#8

/-- The response word `RSP = ST ++ RD` (R99). -/
def responseWord (st rd : Byte) : ResponseWord := st ++ rd

/-- The number `PH` holds in a phase (R23, R151). -/
def Phase.number : Phase → BitVec 4
  | .wait => 0
  | .setSel => 1
  | .enable => 2
  | .opc => 3
  | .a2 => 4
  | .a1 => 5
  | .a0 => 6
  | .dat => 7
  | .release => 8
  | .respond => 9

/-- The phases at whose entry the abort request is looked at, 1 to 7 (R154). -/
def Phase.abortable (p : Phase) : Bool := decide (1 ≤ p.number.toNat ∧ p.number.toNat ≤ 7)

/-- The phases in which a byte is exchanged, 3 to 7 (R130). -/
def Phase.transfers (p : Phase) : Bool := decide (3 ≤ p.number.toNat ∧ p.number.toNat ≤ 7)

/-- The phases after which, and before whose response, a WRITE that is cut short leaves its byte
unspecified: those behind the enable phase (R72). -/
def Phase.enabled (p : Phase) : Bool := decide (3 ≤ p.number.toNat)

end Sys2Proof.Machine
end

