-- ==== Sys2Proof/Machine/Ops.lean ====
section
/-!
DEFINITION. The named operations over the state: memory, free values, events, the views of R29 and
R31, the line writes (spec/40_decoder_control.md R110), the response (spec/42_sequencer.md R157), and
the three ways a command ends early: a boundary condition, an abort, a reset
(spec/60_exceptions.md R175, R179; spec/70_reset_and_hazards.md R200, R202).
-/

namespace Sys2Proof.Machine

/-! ## Memory -/

/-- What has been written at a location; none where nothing has. -/
def Memory.get? : Memory → Nat → Option Byte
  | [], _ => none
  | (x, v) :: m, l => if x = l then some v else Memory.get? m l

/-- A store of one byte at a location, keeping the locations strictly rising. -/
def Memory.set : Memory → Nat → Byte → Memory
  | [], l, v => [(l, v)]
  | (x, w) :: m, l, v =>
    if l < x then (l, v) :: (x, w) :: m
    else if l = x then (l, v) :: m
    else (x, w) :: Memory.set m l v

/-- `MemWrite((k,a), 1, v)` (R58). -/
def Memory.write (m : Memory) (k : Chan) (a : Addr) (v : Byte) : Memory := m.set (location k a) v

/-- What `DEV[k][a]` holds where nothing has been written: any value, but stable (R36, R206; log
entry 2). -/
def unwritten (k : Chan) (a : Addr) : Byte := Config.initialByte k a

/-- `MemRead((k,a), 1)`: the byte `DEV[k][a]` (R59). -/
def Memory.read (m : Memory) (k : Chan) (a : Addr) : Byte :=
  (m.get? (location k a)).getD (unwritten k a)

/-- Several locations of one device change. -/
def Memory.writeCells (m : Memory) (k : Chan) (cells : List (Addr × Byte)) : Memory :=
  cells.foldl (fun m c => m.write k c.1 c.2) m

/-- The written contents of one device. -/
def Memory.ofDevice (m : Memory) (k : Chan) : List Host.Cell :=
  m.filter (fun c => c.1 / 2 ^ 24 = k.toNat)

/-! ## Views of the state -/

/-- The number the select lines show, whatever `EN` is. -/
def State.code (s : State) : Chan := lineCode s.selLines

/-- The asserted output for given line levels: the decoder of R69. -/
def decoder (en : Bool) (p : SelLines) : Option Chan := if en then some (lineCode p) else none

/-- `sel(state)` (R29). -/
def State.sel (s : State) : Option Chan := decoder s.en s.selLines

/-- `CS(state, k)` (R29): decoder output `k` is asserted. -/
def State.cs (s : State) (k : Chan) : Bool := decide (s.sel = some k)

/-- The device that takes part in a transfer: the one on the asserted output, if that output has a
device, `k < N_CH` (R69, R70). -/
def State.device (s : State) : Option Chan :=
  match s.sel with
  | some k => if k.toNat < s.cfg.nCh then some k else none
  | none => none

/-- The electrical level of the enable pin, `true` for HIGH (R21, R216). -/
def State.enPin (s : State) : Bool := if s.cfg.enActiveHigh then s.en else !s.en

/-- CSMUX owns the bus: `PH != 0 or EN = 1` (R31). -/
def State.ownsBus (s : State) : Bool := decide (s.ph ≠ .wait) || s.en

/-- `DEV[k][a]` (R50). -/
def State.dev (s : State) (k : Chan) (a : Addr) : Byte := s.mem.read k a

/-- `fr[k]` (R68). -/
def State.frameOf (s : State) (k : Chan) : List Byte := s.fr[k.toNat]'k.isLt

/-- The responses in a list of events, as words, the oldest first (R99). -/
def responses : List Event → List ResponseWord
  | [] => []
  | .rsp st rd :: es => responseWord st rd :: responses es
  | _ :: es => responses es

/-! ## Events and inputs -/

/-- Emit an event (R150). -/
def State.emit (s : State) (e : Event) : State := { s with trace := s.trace ++ [e] }

/-- The environment's inputs at this step. -/
def State.envNow (s : State) : EnvIn := s.env.headD EnvIn.quiet

/-- The inputs of this step are used up. -/
def State.envNext (s : State) : State := { s with env := s.env.tail }

/-! ## Line writes -/

/-- The frame buffers when the asserted output goes from `before` to `after`: a device whose output becomes
asserted or deasserted forgets the bytes it has received (R68). -/
def forgetFrames (before after : Option Chan) (f : Frames) : Frames :=
  if after = before then f else noFrames

/-- The levels of the four lines change; the decoder and the devices follow at once (R68, R69). -/
def State.driveLines (s : State) (en : Bool) (p : SelLines) : State :=
  { s with
    en := en
    selLines := p
    fr := forgetFrames s.sel (decoder en p) s.fr }

/-- `LineWrite(EN, v)` (R110). -/
def State.lineWriteEn (s : State) (v : Bool) : State := (s.driveLines v s.selLines).emit (.lwEn v)

/-- `LineWrite(SEL, p)`, the three lines in one step (R110, R118). -/
def State.lineWriteSel (s : State) (p : SelLines) : State := (s.driveLines s.en p).emit (.lwSel p)

/-! ## The response -/

/-- `respond(st, unspecified)`: the RD field is a free byte (R25, R99). -/
def State.respondFree (s : State) (st : Byte) : State :=
  { s with draws := s.draws + 1, trace := s.trace ++ [.rsp st (Config.freeByte s.draws)] }

/-- Phase 9, `respond(ST, RD)`: RD is meant only for a READ with status OK (R157). -/
def State.respondLatched (s : State) : State :=
  if s.opl = 0x03#8 ∧ s.st = statusOk then s.emit (.rsp s.st s.rd) else s.respondFree s.st

/-! ## Ending a command early -/

/-- Raise a boundary condition, status 1 to 4: the response and nothing else (R179). -/
def State.raiseAtBoundary (s : State) (st : Byte) : State := s.respondFree st

/-- The command running is a WRITE behind its enable phase and before its response, not one an abort
has ended already (R72). -/
def State.writeInProgress (s : State) : Bool :=
  decide (s.opl = 0x02#8) && s.ph.enabled && decide (s.st ≠ statusAborted)

/-- Device memory after an interrupted WRITE: the addressed byte becomes a free byte, and at or above
the capacity any locations of that device change (R51, R72). -/
def State.interruptedMem (s : State) : Memory :=
  if s.writeInProgress then
    if inCapacity s.cfg (chanOf s.ch) s.addr then
      s.mem.write (chanOf s.ch) s.addr (Config.freeByte s.draws)
    else s.mem.writeCells (chanOf s.ch) (Config.freeCells s.draws)
  else s.mem

/-- Take an abort: `ABT`, `ST <- 5`, `PH <- 8`, the phase's action skipped (R154, R175, R179). -/
def State.takeAbort (s : State) : State :=
  { s with
    st := statusAborted
    ph := .release
    mem := s.interruptedMem
    draws := s.draws + 1
    trace := s.trace ++ [.abt] }

/-- Take a reset, from any state: `EN` falls first, then `S <- RESET_SEL`, `PH <- 0`, `ST <- 0`; a WRITE
in progress is interrupted; the other latches, the parameters and the rest of memory stay
(R35, R200, R202). -/
def State.takeReset (s : State) : State :=
  { (s.driveLines false s.selLines).driveLines false s.cfg.resetSel with
    ph := .wait
    st := statusOk
    mem := s.interruptedMem
    draws := s.draws + 1
    trace := s.trace ++ [.rst] }

/-- The end of a command: after the response the next command may be presented (R157, R181). The latches
`OPL`, `CH`, `ADDR`, `WD` and `RD` keep what the command left in them: R24 lets a model leave them
unchanged, clear them or not represent them while `PH = 0`, and leaving them is the model's choice
(DESIGN CHOICE, log entry 27; unsafe). -/
def State.endCommand (s : State) : State := { s with ph := .wait }

end Sys2Proof.Machine
end

