-- ==== Sys2Proof/Machine/Device.lean ====
section
/-!
DEFINITION. The bus and the devices on it: one call of the transfer primitive
(spec/41_memory_transactions.md R130; spec/20_memory.md R70, R71), the reference device that fetches
a frame byte by byte and executes it at the fifth (R68), and the two wire frames as its instructions
(spec/30_encoding.md R81).
-/

namespace Sys2Proof.Machine

/-- What one transfer does: the byte that comes back, device memory and frame buffers afterwards, and
how many free values have been taken. -/
structure Reply where
  rx : Byte
  mem : Memory
  fr : Frames
  draws : Nat

/-- Device `k` has received one more byte (the last line of R68's frame machine). -/
def State.received (s : State) (k : Chan) (tx : Byte) : Frames :=
  s.fr.set k.toNat (s.frameOf k ++ [tx]) k.isLt

/-- No device is asserted: none consumes the byte, and the byte that comes back is free (R71). -/
def noDeviceReply (s : State) : Reply :=
  { rx := Config.freeByte s.draws, mem := s.mem, fr := s.fr, draws := s.draws + 1 }

/-- The opcode byte and the address bytes: received, and the answer is free (R68, `n <= 3`). -/
def earlyReply (k : Chan) (tx : Byte) (s : State) : Reply :=
  { rx := Config.freeByte s.draws, mem := s.mem, fr := s.received k tx, draws := s.draws + 1 }

/-- The fifth byte of a write frame: `DEV[k][a] <- tx`, the answer free (R68); at or above the
capacity the device function decides what is stored (R51; log entry 7). -/
def storeReply (a : Addr) (tx : Byte) (k : Chan) (s : State) : Reply where
  rx := Config.freeByte s.draws
  mem :=
    if inCapacity s.cfg k a then s.mem.write k a tx
    else s.mem.writeCells k (Config.storeBeyondCapacity k (s.mem.ofDevice k) a tx)
  fr := s.received k tx
  draws := s.draws + 1

/-- The fifth byte of a read frame: the answer is `DEV[k][a]`, memory as it was (R56, R68); at or above
the capacity the device function gives the answer (R51; log entry 7). -/
def loadReply (a : Addr) (tx : Byte) (k : Chan) (s : State) : Reply where
  rx :=
    if inCapacity s.cfg k a then s.dev k a
    else Config.answerBeyondCapacity k (s.mem.ofDevice k) a
  mem := s.mem
  fr := s.received k tx
  draws := s.draws

/-- A frame outside the spec, one with another opcode or a sixth byte: CSMUX never sends one (R86), and
what the device makes of it is open (R68; log entry 8). -/
def outsideReply (k : Chan) (tx : Byte) (s : State) : Reply where
  rx := Config.freeByte s.draws
  mem := s.mem.writeCells k (Config.freeCells s.draws)
  fr := s.received k tx
  draws := s.draws + 1

/-- The bus or the device fails in this transfer: it is not detected, and everything about the one
device that takes part is open (R67; log entry 9). -/
def faultReply (k : Chan) (s : State) : Reply where
  rx := Config.freeByte s.draws
  mem := s.mem.writeCells k (Config.freeCells s.draws)
  fr := s.fr.set k.toNat (Config.freeFrame s.draws) k.isLt
  draws := s.draws + 1

/-- The device reads a complete frame and executes it (R68, `n = 4`). -/
def frameReply (b0 b1 b2 b3 tx : Byte) (k : Chan) (s : State) : Reply :=
  match decodeFrame (frameOfBytes b0 b1 b2 b3 tx) with
  | .ok (.writeFrame a d) => storeReply a d k s
  | .ok (.readFrame a d) => loadReply a d k s
  | .ok (.idle _ _ _) => outsideReply k tx s
  | .ok (.write _ _ _) => outsideReply k tx s
  | .ok (.read _ _ _) => outsideReply k tx s
  | .ok (.select _ _ _) => outsideReply k tx s
  | .ok (.reserved01 _ _ _) => outsideReply k tx s
  | .ok (.reserved05 _ _ _) => outsideReply k tx s
  | .error _ => outsideReply k tx s

/-- The reference device of R68 takes one byte. -/
def deviceReply (tx : Byte) (k : Chan) (s : State) : Reply :=
  match s.frameOf k with
  | [] => earlyReply k tx s
  | [_] => earlyReply k tx s
  | [_, _] => earlyReply k tx s
  | [_, _, _] => earlyReply k tx s
  | [b0, b1, b2, b3] => frameReply b0 b1 b2 b3 tx k s
  | _ :: _ :: _ :: _ :: _ :: _ => outsideReply k tx s

/-- One exchange on the bus with a given reply: the event `XF(tx, rx)` (R130). -/
def State.exchange (s : State) (tx : Byte) (r : Reply) : State :=
  { s with
    rx := r.rx
    mem := r.mem
    fr := r.fr
    draws := r.draws
    trace := s.trace ++ [.xf tx r.rx] }

/-- What the environment replies to a byte: R68 and R70 on a fault-free bus, R71 with no device. -/
def busReply (busFault : Bool) (tx : Byte) (s : State) : Reply :=
  match s.device with
  | none => noDeviceReply s
  | some k => if busFault then faultReply k s else deviceReply tx k s

/-- `Xfer(tx) -> rx` (R130); the byte received is left in `rx`. -/
def State.xfer (s : State) (busFault : Bool) (tx : Byte) : State := s.exchange tx (busReply busFault tx s)

/-- WRITE_FRAME: the asserted device executes a write frame at its fifth byte (R68, R81). -/
def execWriteFrame (addr : Addr) (data : Byte) (s : State) : Host.Outcome State Fault Refusal :=
  .next (s.exchange data (match s.device with
    | none => noDeviceReply s
    | some k => storeReply addr data k s))

/-- READ_FRAME: the asserted device executes a read frame at its fifth byte (R68, R81). -/
def execReadFrame (addr : Addr) (dummy : Byte) (s : State) : Host.Outcome State Fault Refusal :=
  .next (s.exchange dummy (match s.device with
    | none => noDeviceReply s
    | some k => loadReply addr dummy k s))

end Sys2Proof.Machine
end

