-- ==== Sys2Proof/Machine/Sequencer.lean ====
section
/-!
DEFINITION. The sequencer (spec/42_sequencer.md): the boundary step (R152), the phase table (R151),
its step with the environment's inputs (R160), and one command run from the boundary to the end
(R156).
-/

namespace Sys2Proof.Machine

/-! ## The boundary -/

/-- The OP values that are commands; all others are reserved (R90, R94). -/
def isCommandOp (op : Byte) : Bool :=
  decide (op = 0x00#8) || decide (op = 0x02#8) || decide (op = 0x03#8) || decide (op = 0x04#8)

/-- The condition a command meets at the boundary, the first in the order of R178; status OK when there
is none and the command is admitted. IDLE takes no channel and meets none (R112). -/
def boundaryStatus (op ch : Byte) (addr : Nat) (s : State) : Byte :=
  if isCommandOp op = false then statusIllegalCommand
  else if op = 0x00#8 then statusOk
  else if s.cfg.nCh ≤ ch.toNat then statusInvalidChannel
  else if (op = 0x02#8 ∨ op = 0x03#8) ∧ 2 ^ 24 ≤ addr then statusInvalidAddress
  else if s.en = true ∧ s.code.setWidth 8 ≠ ch then statusSelectConflict
  else statusOk

/-- An admitted command: the latches are loaded, `ST <- 0`, and `PH` moves to 8 for IDLE and to 1
otherwise (R24, R152). -/
def State.accept (s : State) (op ch : Byte) (addr : Nat) (data : Byte) : State :=
  { s with
    opl := op
    ch := ch
    addr := BitVec.ofNat 24 addr
    wd := data
    st := statusOk
    ph := if op = 0x00#8 then .release else .setSel }

/-- The boundary step of R152. -/
def State.boundary (s : State) (op ch : Byte) (addr : Nat) (data : Byte) : State :=
  if boundaryStatus op ch addr s = statusOk then s.accept op ch addr data
  else s.raiseAtBoundary (boundaryStatus op ch addr s)

/-- Taking the next command word from the command port, `CMD(cw)` (R150, R152). -/
def State.takeWord (s : State) (cw : CommandWord) (rest : List CommandWord) : State :=
  { s with port := rest, trace := s.trace ++ [.cmd cw] }

/-- Phase 0: a command word, if one is presented, is taken and judged; with none the sequencer waits
(R151, R158). -/
def State.acceptPhase (s : State) : State :=
  match s.port with
  | [] => s
  | cw :: rest => (s.takeWord cw rest).boundary (cwOp cw) (cwCh cw) (cwAddr cw).toNat (cwData cw)

/-! ## The phase table -/

/-- Move `PH` to the next phase. -/
def State.goto (s : State) (p : Phase) : State := { s with ph := p }

/-- Phase 2's next phase: 9 for SELECT, 3 for WRITE and READ (R151). -/
def afterEnable (opl : Byte) : Option Phase :=
  if opl = 0x04#8 then some .respond
  else if opl = 0x02#8 ∨ opl = 0x03#8 then some .opc
  else none

/-- Phase 7: a WRITE sends `WD`; a READ sends `DUMMY_BYTE` and keeps what it receives in `RD` (R133,
R134, R151). -/
def State.dataPhase (s : State) (busFault : Bool) : Option State :=
  if s.opl = 0x02#8 then some ((s.xfer busFault s.wd).goto .release)
  else if s.opl = 0x03#8 then
    let s1 := s.xfer busFault s.cfg.dummyByte
    some { s1 with rd := s1.rx, ph := .release }
  else none

/-- The action of the present phase and the move to the next, the rows of R151. -/
def State.phaseAction (s : State) (busFault : Bool) : Host.Outcome State Fault Refusal :=
  match s.ph with
  | .wait => .next s.acceptPhase
  | .setSel => .next ((s.lineWriteSel (pat s.ch)).goto .enable)
  | .enable =>
    match afterEnable s.opl with
    | some p => .next ((s.lineWriteEn true).goto p)
    | none => .fault .noPhaseRow
  | .opc => .next ((s.xfer busFault s.opl).goto .a2)
  | .a2 => .next ((s.xfer busFault (addrByte2 s.addr)).goto .a1)
  | .a1 => .next ((s.xfer busFault (addrByte1 s.addr)).goto .a0)
  | .a0 => .next ((s.xfer busFault (addrByte0 s.addr)).goto .dat)
  | .dat =>
    match s.dataPhase busFault with
    | some t => .next t
    | none => .fault .noPhaseRow
  | .release => .next ((s.lineWriteEn false).goto .respond)
  | .respond => .next s.respondLatched.endCommand

/-- One step of the sequencer (R160): reset wins from any state (R200); an abort request found raised at
the entry of phases 1 to 7 is taken instead of the phase's action, and is dropped elsewhere (R154). -/
def seqStep (s : State) : Host.Outcome State Fault Refusal :=
  if s.envNow.reset then .next s.envNext.takeReset
  else if s.envNow.abort && s.ph.abortable then .next s.envNext.takeAbort
  else s.envNext.phaseAction s.envNow.busFault

/-- Steps of the sequencer until it is back in phase 0, at most `n`. -/
def runPhases : Nat → State → Host.Outcome State Fault Refusal
  | 0, s => .next s
  | n + 1, s =>
    if s.ph = .wait then .next s
    else
      match seqStep s with
      | .next t => runPhases n t
      | .fault r => .fault r
      | .refused r => .refused r

/-- A command from its boundary step to its end: at most nine phases follow the boundary (R155). While
another command is running the port is busy and accepts nothing (R23, R152). -/
def runCommand (op ch : Byte) (addr : Nat) (data : Byte) (s : State) : Host.Outcome State Fault Refusal :=
  if s.ph = .wait then runPhases 9 (s.boundary op ch addr data) else .next s

/-- A command word whose OP has no row in the opcode table, 0x06 .. 0xFF: IllegalCommand (R94, R173). -/
def illegalWord (cw : CommandWord) (s : State) : Host.Outcome State Fault Refusal :=
  runCommand (cwOp cw) (cwCh cw) (cwAddr cw).toNat (cwData cw) s

/-! ## Fetching -/

/-- The next instruction of the command port: the word the host presents, if the sequencer is in phase 0
and not reset in this step (R152), and the state once it is taken. -/
def State.fetch (s : State) : Option (CommandWord × State) :=
  if s.ph = .wait ∧ s.envNow.reset = false then
    match s.port with
    | [] => none
    | cw :: rest => some (cw, s.envNext.takeWord cw rest)
  else none

/-- A host that presents one more command word next, with every input low in the step that takes it. -/
def State.presentCommand (s : State) (cw : CommandWord) : State :=
  { s with ph := .wait, port := cw :: s.port, env := EnvIn.quiet :: s.env }

/-- The asserted device has received the first four bytes of a frame and the sequencer is about to send
the fifth, with every input low: phase 7, the latches as the frame needs them (R68, R151). Where no
device is asserted, the one on channel 0 is. -/
def State.presentFrame (s : State) (f : FrameWord) : State :=
  let k : Chan := s.device.getD 0
  { s with
    en := true
    selLines := pat (k.setWidth 8)
    ph := .dat
    opl := frameOpc f
    ch := k.setWidth 8
    addr := frameAddr f
    wd := frameLast f
    fr := noFrames.set k.toNat ((frameBytes f).take 4) k.isLt
    env := EnvIn.quiet :: s.env }

end Sys2Proof.Machine
end

