-- ==== Sys2Proof/Machine/Control.lean ====
section
/-!
DEFINITION. The Decoder Controller's commands, SELECT and IDLE (spec/40_decoder_control.md R111,
R112).
-/

namespace Sys2Proof.Machine

/-- SELECT `ch`: the select lines, then the enable line (R111). -/
def execSelect (ch : Byte) (addr : Addr) (data : Byte) (s : State) : Host.Outcome State Fault Refusal :=
  runCommand 0x04#8 ch addr.toNat data s

/-- IDLE: the enable line is deasserted, whatever the state (R112, R117). -/
def execIdle (ch : Byte) (addr : Addr) (data : Byte) (s : State) : Host.Outcome State Fault Refusal :=
  runCommand 0x00#8 ch addr.toNat data s

end Sys2Proof.Machine
end

