-- ==== Sys2Proof/Machine/Reserved.lean ====
section
/-!
DEFINITION. The two named reserved operations (spec/30_encoding.md R94): IllegalCommand, status 3
(spec/60_exceptions.md R173).
-/

namespace Sys2Proof.Machine

/-- OP 0x01, the device family's write-status, which CSMUX never passes on (R94, R173). -/
def execReserved01 (ch : Byte) (addr : Addr) (data : Byte) (s : State) : Host.Outcome State Fault Refusal :=
  runCommand 0x01#8 ch addr.toNat data s

/-- OP 0x05, the device family's read-status, which CSMUX never passes on (R94, R173). -/
def execReserved05 (ch : Byte) (addr : Addr) (data : Byte) (s : State) : Host.Outcome State Fault Refusal :=
  runCommand 0x05#8 ch addr.toNat data s

end Sys2Proof.Machine
end

