-- ==== Sys2Proof/Machine/Transaction.lean ====
section
/-!
DEFINITION. The Memory Transaction Engine's commands, WRITE and READ
(spec/41_memory_transactions.md R131, R132). They are one parameterised sequence, as R133 directs;
they differ in the opcode.
-/

namespace Sys2Proof.Machine

/-- WRITE `ch, addr, data` (R131). An address of more than 24 bits is InvalidAddress (R172). -/
def execWrite (ch : Byte) (addr : Nat) (data : Byte) (s : State) : Host.Outcome State Fault Refusal :=
  runCommand Config.opcWrite ch addr data s

/-- READ `ch, addr` (R132); the DATA field is latched and not sent. -/
def execRead (ch : Byte) (addr : Nat) (data : Byte) (s : State) : Host.Outcome State Fault Refusal :=
  runCommand Config.opcRead ch addr data s

end Sys2Proof.Machine
end

