-- ==== Sys2Proof/Machine/Dispatch.lean ====
section
/-!
DEFINITION. One arm per constructor of Instr, each a direct call of that instruction's meaning.
-/

namespace Sys2Proof.Machine

def exec (i : Instr) (s : State) : Host.Outcome State Fault Refusal :=
  match i with
  | .idle ch addr data => Sys2Proof.Machine.execIdle ch addr data s
  | .write ch addr data => Sys2Proof.Machine.execWrite ch addr data s
  | .read ch addr data => Sys2Proof.Machine.execRead ch addr data s
  | .select ch addr data => Sys2Proof.Machine.execSelect ch addr data s
  | .reserved01 ch addr data => Sys2Proof.Machine.execReserved01 ch addr data s
  | .reserved05 ch addr data => Sys2Proof.Machine.execReserved05 ch addr data s
  | .writeFrame addr data => Sys2Proof.Machine.execWriteFrame addr data s
  | .readFrame addr dummy => Sys2Proof.Machine.execReadFrame addr dummy s

end Sys2Proof.Machine
end

