-- ==== Sys2Proof/Machine/Step.lean ====
section
/-!
DEFINITION. One step of the machine. In phase 0 with a command presented it is the whole command,
from its boundary step to its response (spec/42_sequencer.md R156); in every other state it is one
step of the sequencer (R160). Log entry 10.
-/

namespace Sys2Proof.Machine

/-- A presented command word is decoded and run; a word with a reserved OP that has no row is refused
with IllegalCommand (R94); otherwise the sequencer takes one step: a phase of the running command, a
reset, or waiting. -/
def step (s : State) : Host.Outcome State Fault Refusal :=
  match s.fetch with
  | some (cw, t) =>
    match decodeCommand cw with
    | .ok i => exec i t
    | .error _ => illegalWord cw t
  | none => seqStep s

/-- The state in which the next step runs a word of the opcode table: a 48-bit command word is presented
at the command port, a 40-bit wire frame is on the bus up to its last byte. -/
def State.withFetchWord (s : State) (nbits w : Nat) : State :=
  if nbits = 48 then s.presentCommand (BitVec.ofNat 48 w)
  else if nbits = 40 then s.presentFrame (BitVec.ofNat 40 w)
  else s

end Sys2Proof.Machine
end

