-- ==== Sys2Proof/Safety.lean ====
section
/-!
DEFINITION. What counts as a safe run, in the terms claims use: the environment's premises
(spec/20_memory.md R67, R70), and the invariant of the machine (spec/10_state.md R30).
-/

namespace Sys2Proof.Machine

/-- In the next `n` steps every input is low: no abort, no reset, a fault-free bus. -/
abbrev State.Undisturbed (s : State) (n : Nat) : Prop := ∀ e ∈ s.env.take n, e = EnvIn.quiet

/-- In the next `n` steps there is no reset. -/
abbrev State.NoReset (s : State) (n : Nat) : Prop := ∀ e ∈ s.env.take n, e.reset = false

/-- In the next `n` steps there is no abort request. -/
abbrev State.NoAbort (s : State) (n : Nat) : Prop := ∀ e ∈ s.env.take n, e.abort = false

/-- The bus and the devices never fail: the fault-free premise of R67. -/
abbrev State.FaultFree (s : State) : Prop := ∀ e ∈ s.env, e.busFault = false

/-- No other channel than `ch` is asserted: the precondition of a selection (R116). -/
abbrev State.MaySelect (s : State) (ch : Byte) : Prop := s.en = true → s.code.setWidth 8 = ch

/-- What holds of the latches in each phase: R30 I4 and what of I5 the latches can say. In phases 8 and 9
both directions of I5 are there: a SELECT without an abort ends asserted, on its own channel. At rest
only one is, since a reset lowers `EN` and leaves `OPL`; `AcceptedSelectKeepsItsChannel` states the other.
That the latches speak of the last admitted command at rest is the model's choice (log entry 27). -/
def State.phaseInv (s : State) : Prop :=
  match s.ph with
  | .wait => s.en = true → s.opl = 0x04#8 ∧ s.st = statusOk ∧ s.code.setWidth 8 = s.ch
  | .setSel =>
    (s.opl = 0x02#8 ∨ s.opl = 0x03#8 ∨ s.opl = 0x04#8) ∧ s.st = statusOk ∧ s.ch.toNat < s.cfg.nCh ∧
      s.MaySelect s.ch
  | .enable =>
    (s.opl = 0x02#8 ∨ s.opl = 0x03#8 ∨ s.opl = 0x04#8) ∧ s.st = statusOk ∧ s.ch.toNat < s.cfg.nCh ∧
      s.selLines = pat s.ch
  | .release =>
    s.opl = 0x00#8 ∨ s.opl = 0x02#8 ∨ s.opl = 0x03#8 ∨ s.opl = 0x04#8 ∧ s.st = statusAborted
  | .respond =>
    (s.en = true → s.opl = 0x04#8 ∧ s.st = statusOk ∧ s.code.setWidth 8 = s.ch) ∧
      (s.opl = 0x04#8 → s.st = statusOk → s.en = true)
  | _ =>
    (s.opl = 0x02#8 ∨ s.opl = 0x03#8) ∧ s.st = statusOk ∧ s.ch.toNat < s.cfg.nCh ∧ s.en = true ∧
      s.selLines = pat s.ch

/-- The phases before which every frame buffer is empty: no byte has been exchanged since the last
change of the asserted output. -/
def Phase.beforeBytes (p : Phase) : Bool :=
  decide (p ≠ .a2 ∧ p ≠ .a1 ∧ p ≠ .a0 ∧ p ≠ .dat ∧ p ≠ .release)

/-- The invariant of the machine (R30 I3, I4, and I5 as `State.phaseInv` says; R68), for states in the
middle of a command too. -/
structure Coherent (s : State) : Prop where
  /-- The parameters are in the ranges of R7. -/
  cfg_wf : s.cfg.wf
  /-- The memory is in canonical form. -/
  mem_wf : s.mem.wf
  /-- I3: a selected channel is a valid one. -/
  selected_valid : s.en = true → s.code.toNat < s.cfg.nCh
  /-- A device whose output is not asserted has received nothing (R68). -/
  unselected_empty : ∀ k : Chan, s.sel ≠ some k → s.frameOf k = []
  /-- Before the first transfer of a command no device has received anything. -/
  rest_empty : s.ph.beforeBytes = true → s.fr = noFrames
  /-- `ST` holds 0 or 5 (R26). -/
  status : s.st = statusOk ∨ s.st = statusAborted
  /-- The latches fit the phase. -/
  phase : s.phaseInv

end Sys2Proof.Machine
end

