-- ==== Sys2Proof/Certificates/Slice0/Obligations.lean ====
section
/-!
DEFINITION. The statements for the provers. Each docstring names the rule or section of spec/ it
formalises. A free value (`Config.freeByte` and the other opaque constants of Config) stands for any
value; no statement rests on one, nor on how many have been taken (`draws`, the model's own, log
entry 6: it is any number `d` after a command). That events are read from `trace` (log entry 5), inputs
and presented words from `env` and `port` (log entry 3), and the parameters from `cfg` (log entry 4), is
the model's representation, in every statement that names them.
-/

open Sys2Proof Sys2Proof.Machine

/-! ## Encodings -/

/-- Every well-formed instruction has a word, and that word decodes to it with every operand
(30_encoding.md sections 2 and 4). -/
def Obligations.DecodeOfEncodeIsIdentity : Prop :=
  ∀ (cfg : Config) (i : Instr), i.wf cfg = true → ∃ c, encode i = some c ∧ decode c = .ok i

/-- A word has one meaning: whatever a word decodes to is encoded by that very word
(30_encoding.md sections 2 and 4). -/
def Obligations.EncodeOfDecodeIsIdentity : Prop :=
  ∀ (c : Code) (i : Instr), decode c = .ok i → encode i = some c

/-- The decoder rejects exactly the command words with OP 0x06 .. 0xFF and the frames whose first byte
is neither opcode, each by name (R94; 30_encoding.md section 2). That a frame with the read opcode decodes
whatever its fifth byte is, where R81 gives the row `DUMMY_BYTE` there, is the model's reading, log entry
25. -/
def Obligations.ReservedWordsAreRejectedByName : Prop :=
  (∀ cw : CommandWord,
    decodeCommand cw = .error (.reservedOp (cwOp cw)) ↔ 6 ≤ (cwOp cw).toNat) ∧
  (∀ cw : CommandWord, (cwOp cw).toNat < 6 → ∃ i, decodeCommand cw = .ok i) ∧
  (∀ f : FrameWord,
    decodeFrame f = .error (.unknownOpcode (frameOpc f)) ↔
      frameOpc f ≠ Config.opcWrite ∧ frameOpc f ≠ Config.opcRead) ∧
  (∀ f : FrameWord, frameOpc f = Config.opcWrite ∨ frameOpc f = Config.opcRead →
    ∃ i, decodeFrame f = .ok i)

/-- Words the spec writes out decode to the commands and frames it gives for them (95_test_vectors.md
sections 2.1 and 2.2; the words with a reserved OP are V-F1, V-F5 and V-F3 of section 2.8, by R94). -/
def Obligations.SpecWordsDecode : Prop :=
  decode (.command 0x000000000000#48) = .ok (.idle 0 0 0) ∧
  decode (.command 0x000900000000#48) = .ok (.idle 9 0 0) ∧
  decode (.command 0x040200000000#48) = .ok (.select 2 0 0) ∧
  decode (.command 0x0202010203AA#48) = .ok (.write 2 0x010203 0xAA) ∧
  decode (.command 0x0203FFFFFFFF#48) = .ok (.write 3 0xFFFFFF 0xFF) ∧
  decode (.command 0x0302010203FF#48) = .ok (.read 2 0x010203 0xFF) ∧
  decode (.command 0x010000000000#48) = .ok (.reserved01 0 0 0) ∧
  decode (.command 0x050900000000#48) = .ok (.reserved05 9 0 0) ∧
  decode (.command 0x060000000000#48) = .error (.reservedOp 6) ∧
  decode (.frame 0x02010203AA#40) = .ok (.writeFrame 0x010203 0xAA) ∧
  decode (.frame 0x0300001F00#40) = .ok (.readFrame 0x00001F 0x00)

/-- The three address bytes, by value, lose and add no bit, and WRITE and READ send them in that order
after the opcode, the most significant first (R83). -/
def Obligations.AddressBytesAreBigEndian : Prop :=
  (∀ a : Addr,
    (addrByte2 a).toNat = a.toNat / 2 ^ 16 ∧ (addrByte1 a).toNat = a.toNat / 2 ^ 8 % 2 ^ 8 ∧
      (addrByte0 a).toNat = a.toNat % 2 ^ 8 ∧ addrByte2 a ++ addrByte1 a ++ addrByte0 a = a) ∧
  ∀ (cfg : Config) (ch : Byte) (a : Addr) (d : Byte),
    (∃ f, wireFrame cfg (.write ch a.toNat d) = some f ∧
      frameBytes f = [0x02#8, addrByte2 a, addrByte1 a, addrByte0 a, d]) ∧
    ∃ f, wireFrame cfg (.read ch a.toNat d) = some f ∧
      frameBytes f = [0x03#8, addrByte2 a, addrByte1 a, addrByte0 a, cfg.dummyByte]

/-- The pattern table, row by row, and its closed form: the decoder output the pattern of a channel
below 8 shows is that channel (R88). -/
def Obligations.PatternTableRows : Prop :=
  pat 0 = ⟨false, false, false⟩ ∧ pat 1 = ⟨true, false, false⟩ ∧ pat 2 = ⟨false, true, false⟩ ∧
  pat 3 = ⟨true, true, false⟩ ∧ pat 4 = ⟨false, false, true⟩ ∧ pat 5 = ⟨true, false, true⟩ ∧
  pat 6 = ⟨false, true, true⟩ ∧ pat 7 = ⟨true, true, true⟩ ∧
  (∀ c : Byte, c.toNat < 8 → (lineCode (pat c)).setWidth 8 = c) ∧
  ∀ c : Byte, pat c = ⟨c.getLsbD 0, c.getLsbD 1, c.getLsbD 2⟩

/-! ## Lines -/

/-- The decoder: output `k` is asserted exactly if the enable line is and the select lines show `k`; so
at most one is (R69; 10_state.md section 7). -/
def Obligations.DecoderAssertsAtMostOneOutput : Prop :=
  (∀ (s : State) (k : Chan), s.cs k = true ↔ s.en = true ∧ s.code = k) ∧
  (∀ (s : State) (j k : Chan), s.cs j = true → s.cs k = true → j = k) ∧
  ∀ s : State, s.en = false → ∀ k : Chan, s.cs k = false

/-- A line write drives its own lines, emits its event, and touches no other latch and no memory; one
that repeats the present levels changes no output and no frame buffer, and one that changes the asserted
output empties them (40_decoder_control.md section 1; 20_memory.md section 5). That the buffers of outputs
which do not change are emptied too is the model's reading, log entry 21. -/
def Obligations.LineWritesDriveTheirLinesOnly : Prop :=
  (∀ (s : State) (v : Bool),
    s.lineWriteEn v =
      { s with
        en := v
        fr := forgetFrames s.sel (decoder v s.selLines) s.fr
        trace := s.trace ++ [.lwEn v] }) ∧
  (∀ (s : State) (p : SelLines),
    s.lineWriteSel p =
      { s with
        selLines := p
        fr := forgetFrames s.sel (decoder s.en p) s.fr
        trace := s.trace ++ [.lwSel p] }) ∧
  (∀ s : State, s.lineWriteEn s.en = s.emit (.lwEn s.en)) ∧
  ∀ s : State, s.lineWriteSel s.selLines = s.emit (.lwSel s.selLines)

/-- After the release step no output is asserted, whatever the lines held (R117). -/
def Obligations.ReleaseAssertsNothing : Prop :=
  ∀ (s : State) (k : Chan), (s.lineWriteEn false).sel = none ∧ (s.lineWriteEn false).cs k = false

/-- The enable pin is HIGH exactly while the enable line is asserted if `EN_ACTIVE_HIGH`, and exactly
while it is not otherwise (10_state.md section 2). -/
def Obligations.EnablePinFollowsPolarity : Prop :=
  ∀ s : State,
    (s.cfg.enActiveHigh = true → s.enPin = s.en) ∧ (s.cfg.enActiveHigh = false → s.enPin = !s.en)

/-! ## Memory -/

/-- `MemWrite` then `MemRead`: the byte stored is read back, and every other location of every device
is unchanged (20_memory.md section 3). -/
def Obligations.StoreThenLoadReturnsByte : Prop :=
  ∀ (m : Memory) (k j : Chan) (a b : Addr) (v : Byte),
    (m.write k a v).read j b = if j = k ∧ b = a then v else m.read j b

/-- Every instruction keeps the canonical form of memory, from every state (model's representation, log
entry 2). -/
def Obligations.EveryInstructionKeepsMemoryCanonical : Prop :=
  ∀ (i : Instr) (s t : State), s.mem.wf → exec i s = .next t → t.mem.wf

/-! ## What each command does -/

/-- SELECT of a valid channel, no other asserted, no input raised: the select lines, then the enable
line, the response with status 0; nothing else changes but the command latches. The frame buffers are
emptied exactly if the output was not asserted before (R111; 40_decoder_control.md section 2). That the
latches keep their values at rest is the model's choice, log entry 27. -/
def Obligations.SelectCompletes : Prop :=
  ∀ (s : State) (ch : Byte) (addr : Addr) (data : Byte),
    s.ph = .wait → ch.toNat < s.cfg.nCh → s.MaySelect ch → s.Undisturbed 3 →
    ∃ rd d, exec (.select ch addr data) s = .next
      { s with
        en := true
        selLines := pat ch
        opl := 0x04#8
        ch := ch
        addr := addr
        wd := data
        st := 0
        fr := if s.en = true then s.fr else noFrames
        env := s.env.drop 3
        draws := d
        trace := s.trace ++ [.lwSel (pat ch), .lwEn true, .rsp 0 rd] }

/-- Selecting the channel that is asserted already is allowed and changes no line, no frame buffer and
no memory; the line writes and the response are emitted (40_decoder_control.md section 2). -/
def Obligations.ReselectChangesNoLine : Prop :=
  ∀ (s : State) (ch : Byte) (addr : Addr) (data : Byte),
    s.ph = .wait → ch.toNat < s.cfg.nCh → s.en = true → s.code.setWidth 8 = ch → s.Undisturbed 3 →
    ∃ t rd, exec (.select ch addr data) s = .next t ∧ t.en = s.en ∧ t.selLines = s.selLines ∧
      t.fr = s.fr ∧ t.mem = s.mem ∧
      t.trace = s.trace ++ [.lwSel s.selLines, .lwEn true, .rsp 0 rd]

/-- IDLE from every state in which no command runs, whatever its fields hold and whether or not an
abort is requested: the enable line is deasserted, status 0, the select lines and memory stay (R112;
10_state.md R34). That the latches keep their values at rest is the model's choice, log entry 27. -/
def Obligations.IdleCompletes : Prop :=
  ∀ (s : State) (ch : Byte) (addr : Addr) (data : Byte),
    s.ph = .wait → s.NoReset 2 →
    ∃ rd d, exec (.idle ch addr data) s = .next
      { s with
        en := false
        opl := 0x00#8
        ch := ch
        addr := addr
        wd := data
        st := 0
        fr := if s.en = true then noFrames else s.fr
        env := s.env.drop 2
        draws := d
        trace := s.trace ++ [.lwEn false, .rsp 0 rd] }

/-- WRITE to a valid channel and an address in capacity, no other channel asserted, no input raised:
eight events in order, status 0, the addressed byte holds the data, the decoder is idle, and nothing
else changes but the command latches (R131; 41_memory_transactions.md section 2). The last premise,
part of `Coherent`, says that a channel held by hand has received no byte. That the latches keep their
values at rest is the model's choice, log entry 27. -/
def Obligations.WriteCompletes : Prop :=
  ∀ (s : State) (ch : Byte) (addr : Addr) (data : Byte),
    s.ph = .wait → s.cfg.nCh ≤ 8 → ch.toNat < s.cfg.nCh → s.MaySelect ch → s.Undisturbed 9 →
    addr.toNat < capOf s.cfg (chanOf ch) → (s.en = true → s.fr = noFrames) →
    ∃ r1 r2 r3 r4 r5 rd d, exec (.write ch addr.toNat data) s = .next
      { s with
        en := false
        selLines := pat ch
        opl := 0x02#8
        ch := ch
        addr := addr
        wd := data
        st := 0
        mem := s.mem.write (chanOf ch) addr data
        fr := noFrames
        rx := r5
        env := s.env.drop 9
        draws := d
        trace := s.trace ++
          [.lwSel (pat ch), .lwEn true, .xf 0x02#8 r1, .xf (addrByte2 addr) r2,
            .xf (addrByte1 addr) r3, .xf (addrByte0 addr) r4, .xf data r5, .lwEn false, .rsp 0 rd] }

/-- READ of a valid channel and an address in capacity, no other channel asserted, no input raised:
eight events in order, the fifth byte sent is `DUMMY_BYTE` whatever the data field holds, the response
carries status 0 and the stored byte, memory is unchanged and the decoder is idle (R132;
41_memory_transactions.md section 3). The last premise is as in `WriteCompletes`. That the latches keep
their values at rest is the model's choice, log entry 27. -/
def Obligations.ReadCompletes : Prop :=
  ∀ (s : State) (ch : Byte) (addr : Addr) (data : Byte),
    s.ph = .wait → s.cfg.nCh ≤ 8 → ch.toNat < s.cfg.nCh → s.MaySelect ch → s.Undisturbed 9 →
    addr.toNat < capOf s.cfg (chanOf ch) → (s.en = true → s.fr = noFrames) →
    ∃ r1 r2 r3 r4 d, exec (.read ch addr.toNat data) s = .next
      { s with
        en := false
        selLines := pat ch
        opl := 0x03#8
        ch := ch
        addr := addr
        wd := data
        st := 0
        rd := s.dev (chanOf ch) addr
        fr := noFrames
        rx := s.dev (chanOf ch) addr
        env := s.env.drop 9
        draws := d
        trace := s.trace ++
          [.lwSel (pat ch), .lwEn true, .xf 0x03#8 r1, .xf (addrByte2 addr) r2,
            .xf (addrByte1 addr) r3, .xf (addrByte0 addr) r4,
            .xf s.cfg.dummyByte (s.dev (chanOf ch) addr), .lwEn false,
            .rsp 0 (s.dev (chanOf ch) addr)] }

/-- At or above the device's capacity CSMUX behaves as for any other address: the same events, status
0, idle at the end; what the device stores or answers is its own, no other device changes, and a READ
changes no memory and returns the byte that came back (20_memory.md sections 1 and 2). That the device
function changes only its own device, and by a WRITE only, is the model's choice, log entry 7. -/
def Obligations.CapacityIsNotChecked : Prop :=
  ∀ (s : State) (ch : Byte) (addr : Addr) (data : Byte),
    s.ph = .wait → s.cfg.nCh ≤ 8 → ch.toNat < s.cfg.nCh → s.MaySelect ch → s.Undisturbed 9 →
    capOf s.cfg (chanOf ch) ≤ addr.toNat → (s.en = true → s.fr = noFrames) →
    (∃ t r1 r2 r3 r4 r5 rd, exec (.write ch addr.toNat data) s = .next t ∧
      t.trace = s.trace ++
        [.lwSel (pat ch), .lwEn true, .xf 0x02#8 r1, .xf (addrByte2 addr) r2,
          .xf (addrByte1 addr) r3, .xf (addrByte0 addr) r4, .xf data r5, .lwEn false, .rsp 0 rd] ∧
      t.en = false ∧ t.selLines = pat ch ∧ t.ph = .wait ∧
      ∀ (j : Chan) (a : Addr), j ≠ chanOf ch → t.dev j a = s.dev j a) ∧
    ∃ t r1 r2 r3 r4 r5, exec (.read ch addr.toNat data) s = .next t ∧
      t.trace = s.trace ++
        [.lwSel (pat ch), .lwEn true, .xf 0x03#8 r1, .xf (addrByte2 addr) r2,
          .xf (addrByte1 addr) r3, .xf (addrByte0 addr) r4, .xf s.cfg.dummyByte r5, .lwEn false,
          .rsp 0 r5] ∧
      t.en = false ∧ t.selLines = pat ch ∧ t.ph = .wait ∧ t.mem = s.mem

/-- The two named reserved operations complete with status 3 and change nothing, whatever their
fields hold (R94, R173). -/
def Obligations.ReservedOperationsAnswerIllegal : Prop :=
  ∀ (s : State) (ch : Byte) (addr : Addr) (data : Byte), s.ph = .wait →
    (∃ rd d, exec (.reserved01 ch addr data) s = .next
      { s with draws := d, trace := s.trace ++ [.rsp 3 rd] }) ∧
    ∃ rd d, exec (.reserved05 ch addr data) s = .next
      { s with draws := d, trace := s.trace ++ [.rsp 3 rd] }

/-- A presented command word with any reserved OP, those that have a row in the opcode table and those
that have none, is answered with status 3: the word is taken, the response follows, and nothing else
changes (R94). -/
def Obligations.ReservedWordAnswersIllegal : Prop :=
  ∀ (s : State) (cw : CommandWord) (rest : List CommandWord),
    s.ph = .wait → s.envNow.reset = false → s.port = cw :: rest →
    cwOp cw ≠ 0x00#8 → cwOp cw ≠ 0x02#8 → cwOp cw ≠ 0x03#8 → cwOp cw ≠ 0x04#8 →
    ∃ rd d, step s = .next
      { s with
        port := rest
        env := s.env.tail
        draws := d
        trace := s.trace ++ [.cmd cw, .rsp 3 rd] }

/-- The boundary conditions of SELECT, WRITE and READ in the order of R178: InvalidChannel before
InvalidAddress before SelectConflict, IllegalCommand before all; each gives its status and changes
nothing. -/
def Obligations.BoundaryConditionsInOrder : Prop :=
  ∀ (s : State) (ch : Byte) (a : Addr) (addr : Nat) (data : Byte), s.ph = .wait →
    (s.cfg.nCh ≤ ch.toNat →
      (∃ rd d, exec (.select ch a data) s = .next
        { s with draws := d, trace := s.trace ++ [.rsp 1 rd] }) ∧
      (∃ rd d, exec (.write ch addr data) s = .next
        { s with draws := d, trace := s.trace ++ [.rsp 1 rd] }) ∧
      ∃ rd d, exec (.read ch addr data) s = .next
        { s with draws := d, trace := s.trace ++ [.rsp 1 rd] }) ∧
    (ch.toNat < s.cfg.nCh → 2 ^ 24 ≤ addr →
      (∃ rd d, exec (.write ch addr data) s = .next
        { s with draws := d, trace := s.trace ++ [.rsp 2 rd] }) ∧
      ∃ rd d, exec (.read ch addr data) s = .next
        { s with draws := d, trace := s.trace ++ [.rsp 2 rd] }) ∧
    (ch.toNat < s.cfg.nCh → s.en = true → s.code.setWidth 8 ≠ ch →
      (∃ rd d, exec (.select ch a data) s = .next
        { s with draws := d, trace := s.trace ++ [.rsp 4 rd] }) ∧
      (addr < 2 ^ 24 →
        (∃ rd d, exec (.write ch addr data) s = .next
          { s with draws := d, trace := s.trace ++ [.rsp 4 rd] }) ∧
        ∃ rd d, exec (.read ch addr data) s = .next
          { s with draws := d, trace := s.trace ++ [.rsp 4 rd] })) ∧
    (∃ rd d, exec (.reserved01 ch a data) s = .next
      { s with draws := d, trace := s.trace ++ [.rsp 3 rd] }) ∧
    ∃ rd d, exec (.reserved05 ch a data) s = .next
      { s with draws := d, trace := s.trace ++ [.rsp 3 rd] }

/-! ## The wire frames -/

/-- A write frame at a device asserted, in capacity: the addressed byte holds the data, the device has
received one more byte, the exchange is emitted, nothing else changes (20_memory.md section 5, the
reference device). That the frame as an instruction is the transfer of its fifth byte, whatever the frame
buffer holds, is the model's reading, log entry 11. -/
def Obligations.WriteFrameCompletes : Prop :=
  ∀ (s : State) (k : Chan) (addr : Addr) (data : Byte),
    s.device = some k → addr.toNat < capOf s.cfg k →
    ∃ rx d, exec (.writeFrame addr data) s = .next
      { s with
        rx := rx
        mem := s.mem.write k addr data
        fr := s.fr.set k.toNat (s.frameOf k ++ [data]) k.isLt
        draws := d
        trace := s.trace ++ [.xf data rx] }

/-- A read frame at a device asserted, in capacity: the answer is the stored byte whatever the dummy
byte is, memory is unchanged, nothing else changes (20_memory.md section 5, the reference device). That
the frame as an instruction is the transfer of its fifth byte, whatever the frame buffer holds, is the
model's reading, log entry 11. -/
def Obligations.ReadFrameCompletes : Prop :=
  ∀ (s : State) (k : Chan) (addr : Addr) (dummy : Byte),
    s.device = some k → addr.toNat < capOf s.cfg k →
    exec (.readFrame addr dummy) s = .next
      { s with
        rx := s.dev k addr
        fr := s.fr.set k.toNat (s.frameOf k ++ [dummy]) k.isLt
        trace := s.trace ++ [.xf dummy (s.dev k addr)] }

/-- A frame with no device asserted, or one on an output with no device, reaches none: the byte that
comes back is free, no memory and no frame buffer changes (R71, R70, which speak of one transfer). That
the frame as an instruction is one transfer is the model's reading, log entry 11. -/
def Obligations.FrameWithoutDeviceReachesNone : Prop :=
  ∀ (s : State) (addr : Addr) (b : Byte),
    (s.sel = none ∨ ∃ k, s.sel = some k ∧ s.cfg.nCh ≤ k.toNat) →
    (∃ rx d, exec (.writeFrame addr b) s = .next
      { s with rx := rx, draws := d, trace := s.trace ++ [.xf b rx] }) ∧
    ∃ rx d, exec (.readFrame addr b) s = .next
      { s with rx := rx, draws := d, trace := s.trace ++ [.xf b rx] }

/-- A frame for an address at or above the capacity of the device asserted: the exchange takes place; a
write frame changes no other device, a read frame no memory; what is stored or answered is the device's
own (20_memory.md sections 1 and 5). The device function is the model's choice, log entry 7; that the frame as
an instruction is one transfer is its reading, log entry 11. -/
def Obligations.FrameBeyondCapacityIsTheDevices : Prop :=
  ∀ (s : State) (k : Chan) (addr : Addr) (b : Byte),
    s.device = some k → capOf s.cfg k ≤ addr.toNat →
    (∃ rx mem d, exec (.writeFrame addr b) s = .next
      { s with
        rx := rx
        mem := mem
        fr := s.fr.set k.toNat (s.frameOf k ++ [b]) k.isLt
        draws := d
        trace := s.trace ++ [.xf b rx] } ∧
      ∀ (j : Chan) (a : Addr), j ≠ k → mem.read j a = s.dev j a) ∧
    ∃ rx, exec (.readFrame addr b) s = .next
      { s with
        rx := rx
        fr := s.fr.set k.toNat (s.frameOf k ++ [b]) k.isLt
        trace := s.trace ++ [.xf b rx] }

/-- Two levels, one meaning: the five transfers of a frame, to a device that has received nothing,
have the memory effect and the answer of the frame as an instruction, in capacity (R74). -/
def Obligations.FiveTransfersRunTheFrame : Prop :=
  ∀ (s : State) (k : Chan) (addr : Addr) (data : Byte),
    s.device = some k → s.frameOf k = [] → addr.toNat < capOf s.cfg k →
    (((((((s.xfer false 0x02#8).xfer false (addrByte2 addr)).xfer false (addrByte1 addr)).xfer false
      (addrByte0 addr)).xfer false data).mem = s.mem.write k addr data) ∧
    ((((((s.xfer false 0x03#8).xfer false (addrByte2 addr)).xfer false (addrByte1 addr)).xfer false
      (addrByte0 addr)).xfer false data).mem = s.mem) ∧
    ((((((s.xfer false 0x03#8).xfer false (addrByte2 addr)).xfer false (addrByte1 addr)).xfer false
      (addrByte0 addr)).xfer false data).rx = s.dev k addr))

/-! ## A step runs the decoded instruction -/

/-- In phase 0, not reset, a presented word that decodes to `i`: the step takes the word, uses up the
inputs of the step, and is `exec i` there (42_sequencer.md section 3; the granularity of the step is the
model's choice, log entry 10). -/
def Obligations.StepRunsTheCommandPresented : Prop :=
  ∀ (s : State) (cw : CommandWord) (rest : List CommandWord) (i : Instr),
    s.ph = .wait → s.envNow.reset = false → s.port = cw :: rest → decode (.command cw) = .ok i →
    step s = exec i
      { s with port := rest, env := s.env.tail, trace := s.trace ++ [.cmd cw] }

/-- In phase 7 with every input low and a device that has received four bytes: the step is `exec` of
the frame those bytes and the byte sent decode to, and then the sequencer moves to phase 8, a READ
keeping the byte received in `RD` (20_memory.md section 5; 42_sequencer.md section 2). That the frames
are the device's instructions is the model's reading, log entry 11. -/
def Obligations.StepRunsTheFrameReceived : Prop :=
  ∀ (s u : State) (k : Chan) (b0 b1 b2 b3 : Byte) (i : Instr),
    s.ph = .dat → s.envNow = EnvIn.quiet → s.device = some k → s.frameOf k = [b0, b1, b2, b3] →
    (s.opl = 0x02#8 → decode (.frame (frameOfBytes b0 b1 b2 b3 s.wd)) = .ok i →
      exec i { s with env := s.env.tail } = .next u → step s = .next { u with ph := .release }) ∧
    (s.opl = 0x03#8 → decode (.frame (frameOfBytes b0 b1 b2 b3 s.cfg.dummyByte)) = .ok i →
      exec i { s with env := s.env.tail } = .next u →
      step s = .next { u with rd := u.rx, ph := .release })

/-- In phase 0, not reset, with no command presented the machine waits: only the inputs of the step are
used up (42_sequencer.md section 6; 60_exceptions.md section 5). -/
def Obligations.StepWaitsWithoutCommand : Prop :=
  ∀ s : State, s.ph = .wait → s.envNow.reset = false → s.port = [] →
    step s = .next { s with env := s.env.tail }

/-- The two descriptions agree: from phase 0, for every command word and every input, the step is the
sequencer's step followed by sequencer steps until phase 0 again, at most nine (42_sequencer.md section 5,
R156). That phase 0 is reached within the nine is `EveryCommandEndsInPhaseZero`: `runPhases 9` alone does
not say it. That the machine's step is a whole command is the model's choice, log entry 10. -/
def Obligations.StepIsARunOfSequencerSteps : Prop :=
  ∀ s : State, s.ph = .wait → ∃ t, seqStep s = .next t ∧ step s = runPhases 9 t

/-! ## The sequencer -/

/-- The rows of the phase table, 0 to 9: with every input low, each phase emits its event and moves to its
next phase. In row 0 a presented word is taken: IDLE moves to 8, an admitted SELECT, WRITE or READ to 1,
both loading the latches and `ST`; a word that fails a check is answered and the phase stays 0; with no
word the sequencer waits (42_sequencer.md sections 2 and 3). -/
def Obligations.PhaseTableRows : Prop :=
  ∀ s : State, s.envNow = EnvIn.quiet →
    (s.ph = .wait → s.port = [] → seqStep s = .next { s with env := s.env.tail }) ∧
    (∀ (cw : CommandWord) (rest : List CommandWord), s.ph = .wait → s.port = cw :: rest →
      (cwOp cw = 0x00#8 → seqStep s = .next
        { s with
          opl := cwOp cw
          ch := cwCh cw
          addr := cwAddr cw
          wd := cwData cw
          st := 0
          ph := .release
          port := rest
          env := s.env.tail
          trace := s.trace ++ [.cmd cw] }) ∧
      (cwOp cw = 0x02#8 ∨ cwOp cw = 0x03#8 ∨ cwOp cw = 0x04#8 →
        (cwCh cw).toNat < s.cfg.nCh → s.MaySelect (cwCh cw) → seqStep s = .next
        { s with
          opl := cwOp cw
          ch := cwCh cw
          addr := cwAddr cw
          wd := cwData cw
          st := 0
          ph := .setSel
          port := rest
          env := s.env.tail
          trace := s.trace ++ [.cmd cw] }) ∧
      (cwOp cw ≠ 0x00#8 → cwOp cw ≠ 0x02#8 → cwOp cw ≠ 0x03#8 → cwOp cw ≠ 0x04#8 →
        ∃ rd d, seqStep s = .next
          { s with
            port := rest
            env := s.env.tail
            draws := d
            trace := s.trace ++ [.cmd cw, .rsp 3 rd] }) ∧
      (cwOp cw = 0x02#8 ∨ cwOp cw = 0x03#8 ∨ cwOp cw = 0x04#8 → s.cfg.nCh ≤ (cwCh cw).toNat →
        ∃ rd d, seqStep s = .next
          { s with
            port := rest
            env := s.env.tail
            draws := d
            trace := s.trace ++ [.cmd cw, .rsp 1 rd] }) ∧
      (cwOp cw = 0x02#8 ∨ cwOp cw = 0x03#8 ∨ cwOp cw = 0x04#8 → (cwCh cw).toNat < s.cfg.nCh →
        ¬s.MaySelect (cwCh cw) →
        ∃ rd d, seqStep s = .next
          { s with
            port := rest
            env := s.env.tail
            draws := d
            trace := s.trace ++ [.cmd cw, .rsp 4 rd] })) ∧
    (s.ph = .setSel → ∃ t, seqStep s = .next t ∧ t.ph = .enable ∧ t.selLines = pat s.ch ∧
      t.en = s.en ∧ t.trace = s.trace ++ [.lwSel (pat s.ch)]) ∧
    (s.ph = .enable → s.opl = 0x04#8 → ∃ t, seqStep s = .next t ∧ t.ph = .respond ∧ t.en = true ∧
      t.selLines = s.selLines ∧ t.trace = s.trace ++ [.lwEn true]) ∧
    (s.ph = .enable → s.opl = 0x02#8 ∨ s.opl = 0x03#8 → ∃ t, seqStep s = .next t ∧ t.ph = .opc ∧
      t.en = true ∧ t.selLines = s.selLines ∧ t.trace = s.trace ++ [.lwEn true]) ∧
    (s.ph = .opc → ∃ t rx, seqStep s = .next t ∧ t.ph = .a2 ∧ t.rd = s.rd ∧
      t.trace = s.trace ++ [.xf s.opl rx]) ∧
    (s.ph = .a2 → ∃ t rx, seqStep s = .next t ∧ t.ph = .a1 ∧ t.rd = s.rd ∧
      t.trace = s.trace ++ [.xf (addrByte2 s.addr) rx]) ∧
    (s.ph = .a1 → ∃ t rx, seqStep s = .next t ∧ t.ph = .a0 ∧ t.rd = s.rd ∧
      t.trace = s.trace ++ [.xf (addrByte1 s.addr) rx]) ∧
    (s.ph = .a0 → ∃ t rx, seqStep s = .next t ∧ t.ph = .dat ∧ t.rd = s.rd ∧
      t.trace = s.trace ++ [.xf (addrByte0 s.addr) rx]) ∧
    (s.ph = .dat → s.opl = 0x02#8 → ∃ t rx, seqStep s = .next t ∧ t.ph = .release ∧ t.rd = s.rd ∧
      t.trace = s.trace ++ [.xf s.wd rx]) ∧
    (s.ph = .dat → s.opl = 0x03#8 → ∃ t rx, seqStep s = .next t ∧ t.ph = .release ∧ t.rd = rx ∧
      t.trace = s.trace ++ [.xf s.cfg.dummyByte rx]) ∧
    (s.ph = .release → ∃ t, seqStep s = .next t ∧ t.ph = .respond ∧ t.en = false ∧
      t.selLines = s.selLines ∧ t.trace = s.trace ++ [.lwEn false]) ∧
    (s.ph = .respond → ∃ t rd, seqStep s = .next t ∧ t.ph = .wait ∧ t.en = s.en ∧
      t.trace = s.trace ++ [.rsp s.st rd] ∧ (s.opl = 0x03#8 → s.st = 0 → rd = s.rd))

/-- `PH` only moves forward within a command; it returns to 0 only from phase 9 or by a reset
(10_state.md section 3). -/
def Obligations.PhaseOnlyMovesForward : Prop :=
  ∀ s t : State, s.ph ≠ .wait → seqStep s = .next t →
    s.ph.number.toNat < t.ph.number.toNat ∨
      t.ph = .wait ∧ (s.ph = .respond ∨ s.envNow.reset = true)

/-- While a command runs the port accepts nothing: no word is taken and no `CMD` is emitted
(42_sequencer.md section 3). -/
def Obligations.BusyPortAcceptsNothing : Prop :=
  ∀ s t : State, s.ph ≠ .wait → seqStep s = .next t →
    t.port = s.port ∧ ∃ es, t.trace = s.trace ++ es ∧ ∀ cw, Event.cmd cw ∉ es

/-- An abort request found raised at the entry of a phase from 1 to 7, without a reset: `ABT`, status 5,
phase 8 next, the phase's action skipped: lines, latches and frame buffers stay; memory stays unless a
WRITE is behind its enable phase, and then only its addressed byte may change, or, at or above the
capacity, only its device (42_sequencer.md section 4; 60_exceptions.md section 2; 20_memory.md R72). When
the byte of a WRITE becomes open, and what may change beyond the capacity, is the model's reading, log
entry 19. -/
def Obligations.AbortIsTakenAtPhaseEntry : Prop :=
  ∀ s : State, s.envNow.abort = true → s.envNow.reset = false →
    1 ≤ s.ph.number.toNat → s.ph.number.toNat ≤ 7 →
    ∃ t, seqStep s = .next t ∧ t.st = 5 ∧ t.ph = .release ∧ t.trace = s.trace ++ [.abt] ∧
      t.en = s.en ∧ t.selLines = s.selLines ∧ t.opl = s.opl ∧ t.ch = s.ch ∧ t.addr = s.addr ∧
      t.wd = s.wd ∧ t.rd = s.rd ∧ t.fr = s.fr ∧ t.port = s.port ∧ t.cfg = s.cfg ∧
      (s.opl ≠ 0x02#8 ∨ s.ph.number.toNat < 3 → t.mem = s.mem) ∧
      (s.addr.toNat < capOf s.cfg (chanOf s.ch) →
        ∀ (j : Chan) (a : Addr), (j, a) ≠ (chanOf s.ch, s.addr) → t.dev j a = s.dev j a) ∧
      ∀ (j : Chan) (a : Addr), j ≠ chanOf s.ch → t.dev j a = s.dev j a

/-- An abort request seen at phase 0, 8 or 9 is dropped: the step is the same as without it
(42_sequencer.md section 4). -/
def Obligations.LateAbortIsDropped : Prop :=
  ∀ (s : State) (r f : Bool) (rest : List EnvIn),
    s.ph = .wait ∨ s.ph = .release ∨ s.ph = .respond →
    seqStep { s with env := ⟨true, r, f⟩ :: rest } = seqStep { s with env := ⟨false, r, f⟩ :: rest }

/-- Reset from any state, before any command is accepted: `EN` deasserted, the select lines at
`RESET_SEL`, phase 0, status 0, no response; the device whose output falls forgets the bytes it received;
the operand latches, the parameters and the words still to be presented stay; memory stays unless a WRITE
is behind its enable phase, and then only its addressed byte may change, or, at or above the capacity,
only its device (70_reset_and_hazards.md section 1; 10_state.md R35; 20_memory.md section 5, R72). The
model's readings: that the operand latches stay, log entry 16; that reset wins over an abort and over a
word presented in the same step, which stays presented, log entry 24; which WRITE counts as cut short and
what may change beyond the capacity, log entry 19; that all frame buffers are emptied with the output,
log entry 21. -/
def Obligations.ResetFromAnyState : Prop :=
  ∀ s : State, s.envNow.reset = true →
    ∃ t, step s = .next t ∧ t.en = false ∧ t.selLines = s.cfg.resetSel ∧ t.ph = .wait ∧ t.st = 0 ∧
      t.trace = s.trace ++ [.rst] ∧ t.cfg = s.cfg ∧ t.port = s.port ∧ t.opl = s.opl ∧ t.ch = s.ch ∧
      t.addr = s.addr ∧ t.wd = s.wd ∧ t.rd = s.rd ∧ t.fr = forgetFrames s.sel none s.fr ∧
      (s.opl ≠ 0x02#8 ∨ s.ph.number.toNat < 3 → t.mem = s.mem) ∧
      (s.addr.toNat < capOf s.cfg (chanOf s.ch) →
        ∀ (j : Chan) (a : Addr), (j, a) ≠ (chanOf s.ch, s.addr) → t.dev j a = s.dev j a) ∧
      ∀ (j : Chan) (a : Addr), j ≠ chanOf s.ch → t.dev j a = s.dev j a

/-- The reset state: `EN` = 0, `S` = (0,0,0), `PH` = 0, `ST` = 0, no output asserted, four channels
(10_state.md section 11; 00_scope.md section 4). -/
def Obligations.ResetStateValues : Prop :=
  State.reset.en = false ∧ State.reset.selLines = ⟨false, false, false⟩ ∧
  State.reset.ph.number = 0 ∧ State.reset.st = 0 ∧ State.reset.sel = none ∧
  State.reset.ownsBus = false ∧ State.reset.cfg.nCh = 4 ∧ State.reset.cfg.enActiveHigh = true ∧
  State.reset.cfg.dummyByte = 0x00#8

/-- Every command, on every operand and for every input of the environment, ends with a next state in
phase 0 after at most nine phases behind the boundary; it never stops the machine (42_sequencer.md
section 5, R160). -/
def Obligations.EveryCommandEndsInPhaseZero : Prop :=
  ∀ (i : Instr) (s : State), i.isCommand = true → s.ph = .wait →
    ∃ t, exec i s = .next t ∧ t.ph = .wait

/-- Every command that no reset cuts short gets exactly one response (R157; 42_sequencer.md
section 6). -/
def Obligations.OneResponsePerCommand : Prop :=
  ∀ (i : Instr) (s : State), i.isCommand = true → s.ph = .wait → s.NoReset 9 →
    ∃ t es, exec i s = .next t ∧ t.trace = s.trace ++ es ∧ (responses es).length = 1

/-- Idle termination: a WRITE or READ admitted at the boundary ends with the enable line deasserted,
whether it runs all its phases, is aborted in any of them, is reset, or meets bus faults; without a
reset its last line event before the response is the release; one refused at the boundary emits only
its response and leaves the lines as they were (R142). -/
def Obligations.TransactionEndsIdle : Prop :=
  ∀ (s : State) (ch : Byte) (addr : Nat) (data : Byte) (i : Instr), s.ph = .wait →
    i = .write ch addr data ∨ i = .read ch addr data →
    (ch.toNat < s.cfg.nCh → addr < 2 ^ 24 → s.MaySelect ch →
      ∃ t, exec i s = .next t ∧ t.en = false ∧ t.sel = none ∧
        (s.NoReset 9 → ∃ es st rd, t.trace = s.trace ++ es ++ [.lwEn false, .rsp st rd])) ∧
    (s.cfg.nCh ≤ ch.toNat ∨ 2 ^ 24 ≤ addr ∨ ¬s.MaySelect ch →
      ∃ t st rd, exec i s = .next t ∧ t.en = s.en ∧ t.selLines = s.selLines ∧
        t.trace = s.trace ++ [.rsp st rd])

/-- Whatever command answers status 5 (Aborted) leaves the enable line deasserted (60_exceptions.md
section 2). -/
def Obligations.AbortedCommandEndsIdle : Prop :=
  ∀ (i : Instr) (s t : State) (es : List Event) (rd : Byte), i.isCommand = true → s.ph = .wait →
    exec i s = .next t → t.trace = s.trace ++ es → Event.rsp 5 rd ∈ es → t.en = false

/-- A bus or device fault raises nothing: a WRITE or READ with neither abort nor reset answers status 0
and ends idle, whatever faults occur (R67). -/
def Obligations.BusFaultIsNotReported : Prop :=
  ∀ (s : State) (ch : Byte) (addr : Nat) (data : Byte),
    s.ph = .wait → ch.toNat < s.cfg.nCh → addr < 2 ^ 24 → s.MaySelect ch → s.NoReset 9 → s.NoAbort 9 →
    (∃ t es rd, exec (.write ch addr data) s = .next t ∧ t.trace = s.trace ++ es ++ [.rsp 0 rd] ∧
      responses es = [] ∧ t.en = false) ∧
    ∃ t es rd, exec (.read ch addr data) s = .next t ∧ t.trace = s.trace ++ es ++ [.rsp 0 rd] ∧
      responses es = [] ∧ t.en = false

/-- From a state that meets the invariant every response of a step carries status 0, 1, 3, 4 or 5: no
other code is produced at the command port (60_exceptions.md section 3, R172). -/
def Obligations.StatusCodesAtThePort : Prop :=
  ∀ (s t : State) (es : List Event) (st rd : Byte), Coherent s → step s = .next t →
    t.trace = s.trace ++ es → Event.rsp st rd ∈ es →
    st = 0 ∨ st = 1 ∨ st = 3 ∨ st = 4 ∨ st = 5

/-! ## Invariants -/

/-- The invariant holds in the reset state (10_state.md R30, I3 and I4). -/
def Obligations.InvariantAtReset : Prop := Coherent State.reset

/-- Every step of the machine keeps the invariant, from every state that meets it and for every input
(10_state.md R30, I3 and I4, with the part of I5 that `State.phaseInv` holds, the rest of I5 being
`AcceptedSelectKeepsItsChannel`; 20_memory.md section 5). That the latches at rest are those of the last
admitted command is the model's choice, log entry 27. -/
def Obligations.StepKeepsInvariant : Prop :=
  ∀ s t : State, Coherent s → step s = .next t → Coherent t

/-- Every step of the sequencer, in the middle of a command too, keeps the invariant
(10_state.md R30, I3 and I4, with the part of I5 that `State.phaseInv` holds, the rest of I5 being
`AcceptedSelectKeepsItsChannel`; 20_memory.md section 5). That the latches at rest are those of the last
admitted command is the model's choice, log entry 27. -/
def Obligations.SequencerStepKeepsInvariant : Prop :=
  ∀ s t : State, Coherent s → seqStep s = .next t → Coherent t

/-- From a state that meets the invariant a step never faults and never refuses: each of the 2^48
command words and each input has a defined outcome (42_sequencer.md R160). -/
def Obligations.StepNeverStops : Prop :=
  ∀ s : State, Coherent s → (∃ t, step s = .next t) ∧ ∃ t, seqStep s = .next t

/-- No step changes a parameter (10_state.md R28; 70_reset_and_hazards.md R200). -/
def Obligations.ParametersNeverChange : Prop :=
  (∀ s t : State, step s = .next t → t.cfg = s.cfg) ∧
  ∀ s t : State, seqStep s = .next t → t.cfg = s.cfg

/-- I2: a select line changes value only in a state with the enable line deasserted; in a reset `EN` falls
in the same step (R114). -/
def Obligations.SelectLinesMoveOnlyWhileDisabled : Prop :=
  ∀ s t : State, Coherent s → seqStep s = .next t → t.selLines ≠ s.selLines →
    t.en = false ∧ (s.en = false ∨ s.envNow.reset = true)

/-- Exclusivity, step by step: the asserted output never goes from one channel to another without being
none in between, and is never one without a device (40_decoder_control.md R115). -/
def Obligations.OutputsNeverSwitchDirectly : Prop :=
  ∀ s t : State, Coherent s → seqStep s = .next t →
    (t.sel ≠ s.sel → s.sel = none ∨ t.sel = none) ∧
    ∀ k, t.sel = some k → k.toNat < t.cfg.nCh

/-- A transfer happens only in phases 3 to 7 of a command, while that command's channel is asserted and
CSMUX owns the bus; the first byte of a frame is 0x02 or 0x03 (41_memory_transactions.md section 1;
30_encoding.md R86). -/
def Obligations.TransfersOnlyWhileSelected : Prop :=
  ∀ (s t : State) (es : List Event) (tx rx : Byte), Coherent s → seqStep s = .next t →
    t.trace = s.trace ++ es → Event.xf tx rx ∈ es →
    s.sel = some (chanOf s.ch) ∧ s.ch.toNat < s.cfg.nCh ∧ s.ownsBus = true ∧
      3 ≤ s.ph.number.toNat ∧ s.ph.number.toNat ≤ 7 ∧ (s.ph = .opc → tx = 0x02#8 ∨ tx = 0x03#8)

/-! ## Memory over whole commands -/

/-- Round trip: a WRITE followed immediately by a READ of the same channel and address, both with no
input raised, returns the byte written, with status 0 (R60). -/
def Obligations.WriteThenReadReturnsByte : Prop :=
  ∀ (s : State) (ch : Byte) (addr : Addr) (data d : Byte),
    s.ph = .wait → s.cfg.nCh ≤ 8 → ch.toNat < s.cfg.nCh → s.MaySelect ch → s.Undisturbed 18 →
    addr.toNat < capOf s.cfg (chanOf ch) → (s.en = true → s.fr = noFrames) →
    ∃ t u es, exec (.write ch addr.toNat data) s = .next t ∧ exec (.read ch addr.toNat d) t = .next u ∧
      u.trace = t.trace ++ es ++ [.rsp 0 data] ∧ responses es = []

/-- Isolation: a WRITE to a channel on a fault-free bus, completed, refused, aborted or reset, in
capacity or not, leaves every byte of every other channel's device unchanged (20_memory.md R61, with the
premise of R67). At or above the capacity it rests on the model's device function, log entry 7, and on
what an interrupted WRITE may change there, log entry 19. -/
def Obligations.WriteLeavesOtherChannels : Prop :=
  ∀ (s t : State) (ch : Byte) (addr : Nat) (data : Byte), Coherent s → s.FaultFree →
    exec (.write ch addr data) s = .next t →
    ∀ (j : Chan) (a : Addr), j ≠ chanOf ch → t.dev j a = s.dev j a

/-- A WRITE on a fault-free bus, completed, aborted or reset, changes at most the byte it addresses, if
that is in capacity (20_memory.md R58, R72). That an interrupted WRITE changes no other byte is the spec's
own choice (92_eei_decisions.md D14), and when it counts as interrupted the model's reading, log entry
19. -/
def Obligations.WriteChangesAtMostOneByte : Prop :=
  ∀ (s t : State) (ch : Byte) (addr : Addr) (data : Byte), Coherent s → s.FaultFree →
    addr.toNat < capOf s.cfg (chanOf ch) → exec (.write ch addr.toNat data) s = .next t →
    ∀ (j : Chan) (a : Addr), (j, a) ≠ (chanOf ch, addr) → t.dev j a = s.dev j a

/-- A READ on a fault-free bus, completed, aborted or reset, changes no byte of any device
(20_memory.md R56, R72). Beyond the capacity this is the model's choice, log entry 7. -/
def Obligations.ReadChangesNoMemory : Prop :=
  ∀ (s t : State) (ch : Byte) (addr : Nat) (data : Byte), Coherent s → s.FaultFree →
    exec (.read ch addr data) s = .next t → t.mem = s.mem

/-- SELECT, IDLE and the reserved operations change no memory and transfer no byte, for every input
(40_decoder_control.md sections 2 and 3; 20_memory.md R72). -/
def Obligations.ControlCommandsTouchNoMemory : Prop :=
  ∀ (s t : State) (i : Instr) (ch : Byte) (addr : Addr) (data : Byte), s.ph = .wait →
    (i = .select ch addr data ∨ i = .idle ch addr data ∨ i = .reserved01 ch addr data ∨
      i = .reserved05 ch addr data) →
    exec i s = .next t →
    t.mem = s.mem ∧ ∃ es, t.trace = s.trace ++ es ∧ ∀ tx rx, Event.xf tx rx ∉ es

/-- Retention: while no command word is presented nothing changes device memory (20_memory.md R73). -/
def Obligations.RestChangesNoMemory : Prop :=
  ∀ s t : State, s.ph = .wait → s.port = [] → step s = .next t → t.mem = s.mem

/-! ## What the lines show between commands -/

/-- An admitted SELECT that no reset cuts short answers 0 and leaves its own channel asserted, or, aborted,
answers 5 and leaves none; and what the lines show at rest stays until a command is admitted or a reset
comes: waiting and refused words leave them (10_state.md R30, I5 and I6). -/
def Obligations.AcceptedSelectKeepsItsChannel : Prop :=
  (∀ (s : State) (ch : Byte) (addr : Addr) (data : Byte),
    s.ph = .wait → ch.toNat < s.cfg.nCh → s.MaySelect ch → s.NoReset 4 →
    ∃ t es st rd, exec (.select ch addr data) s = .next t ∧ t.trace = s.trace ++ es ++ [.rsp st rd] ∧
      responses es = [] ∧
      (st = 0 ∧ t.en = true ∧ t.selLines = pat ch ∧ t.sel = some (chanOf ch) ∨
        st = 5 ∧ t.en = false)) ∧
  ∀ s : State, s.ph = .wait → s.envNow.reset = false →
    (∀ cw rest, s.port = cw :: rest →
      boundaryStatus (cwOp cw) (cwCh cw) (cwAddr cw).toNat s ≠ statusOk) →
    ∃ t, step s = .next t ∧ t.en = s.en ∧ t.selLines = s.selLines ∧ t.ph = .wait
end

