-- ==== Sys2Proof/Laws/Memory.lean ====
section
/-!
SUPPORT. The laws of the list of cells: what a store does to a read and that every operation keeps
the canonical form; a location names one byte of one device (spec/20_memory.md R50, R58, R59).
-/

namespace Sys2Proof.Machine

/-- A location is inside the eight spaces of R50. -/
theorem location_lt (k : Chan) (a : Addr) : location k a < 8 * 2 ^ 24 := by
  have := k.isLt
  have := a.isLt
  unfold location
  omega

/-- Two pairs with one location are one pair: the spaces are disjoint (R50). -/
theorem location_inj {k j : Chan} {a b : Addr} (h : location k a = location j b) : k = j ∧ a = b := by
  have := k.isLt
  have := j.isLt
  have := a.isLt
  have := b.isLt
  unfold location at h
  constructor <;> apply BitVec.eq_of_toNat_eq <;> omega

/-- The device a location belongs to. -/
theorem location_div (k : Chan) (a : Addr) : location k a / 2 ^ 24 = k.toNat := by
  have := a.isLt
  unfold location
  omega

/-- What a store does to what is written at each location. -/
theorem Memory.get?_set (m : Memory) (l : Nat) (v : Byte) (x : Nat) :
    (m.set l v).get? x = if x = l then some v else m.get? x := by
  induction m with
  | nil => grind [Memory.set, Memory.get?]
  | cons c m ih => grind [Memory.set, Memory.get?]

/-- The locations of a memory after a store. -/
theorem Memory.mem_set {m : Memory} {l : Nat} {v : Byte} {c : Host.Cell} (h : c ∈ m.set l v) :
    c = (l, v) ∨ c ∈ m := by
  induction m with
  | nil => simpa [Memory.set] using h
  | cons d m ih =>
    obtain ⟨y, w⟩ := d
    simp only [Memory.set] at h
    split at h
    · simpa using h
    · split at h
      · rcases List.mem_cons.1 h with h | h
        · exact .inl h
        · exact .inr (List.mem_cons_of_mem _ h)
      · rcases List.mem_cons.1 h with h | h
        · exact .inr (h ▸ List.mem_cons_self)
        · exact (ih h).imp id (List.mem_cons_of_mem _)

/-- A store keeps the canonical form. -/
theorem Memory.set_wf {m : Memory} {l : Nat} (v : Byte) (hm : m.wf) (hl : l < 8 * 2 ^ 24) :
    (m.set l v).wf := by
  refine ⟨?_, fun c hc => ?_⟩
  · obtain ⟨hs, -⟩ := hm
    induction m with
    | nil => simp [Memory.set]
    | cons d m ih =>
      obtain ⟨y, w⟩ := d
      obtain ⟨hd, ht⟩ := List.pairwise_cons.1 hs
      simp only [Memory.set]
      split
      · rename_i hlt
        refine List.pairwise_cons.2 ⟨fun c hc => ?_, hs⟩
        rcases List.mem_cons.1 hc with rfl | hc
        · exact hlt
        · exact lt_trans hlt (hd c hc)
      · split
        · rename_i heq
          subst heq
          exact List.pairwise_cons.2 ⟨hd, ht⟩
        · refine List.pairwise_cons.2 ⟨fun c hc => ?_, ih ht⟩
          rcases Memory.mem_set hc with rfl | hc
          · show y < l
            omega
          · exact hd c hc
  · rcases Memory.mem_set hc with rfl | hc
    · exact hl
    · exact hm.2 c hc

/-- `MemWrite` keeps the canonical form. -/
theorem Memory.write_wf {m : Memory} (hm : m.wf) (k : Chan) (a : Addr) (v : Byte) : (m.write k a v).wf :=
  Memory.set_wf v hm (location_lt k a)

/-- Changing several locations of a device keeps the canonical form. -/
theorem Memory.writeCells_wf {m : Memory} (hm : m.wf) (k : Chan) (cells : List (Addr × Byte)) :
    (m.writeCells k cells).wf := by
  unfold Memory.writeCells
  induction cells generalizing m with
  | nil => exact hm
  | cons c cells ih => exact ih (Memory.write_wf hm k c.1 c.2)

/-- A store is not seen at any other byte (R58). -/
theorem Memory.write_read_elsewhere (m : Memory) {k j : Chan} {a b : Addr} (h : (j, b) ≠ (k, a)) (v : Byte) :
    (m.write k a v).read j b = m.read j b := by
  rw [Memory.read, Memory.write, Memory.get?_set,
    if_neg (fun e => h (Prod.ext (location_inj e).1 (location_inj e).2))]
  rfl

/-- A change of device `k` is not seen at any location of another device. -/
theorem Memory.writeCells_read_other (m : Memory) {k j : Chan} (h : j ≠ k) (cells : List (Addr × Byte))
    (a : Addr) : (m.writeCells k cells).read j a = m.read j a := by
  unfold Memory.writeCells
  induction cells generalizing m with
  | nil => rfl
  | cons c cells ih =>
    rw [List.foldl_cons, ih, Memory.write_read_elsewhere m (fun e => h (congrArg Prod.fst e))]

/-- Reset memory is in canonical form. -/
theorem reset_mem_wf : State.reset.mem.wf := by decide

end Sys2Proof.Machine
end

