-- ==== Sys2Proof/Laws/State.lean ====
section
/-!
SUPPORT. One lemma per field per update of the state, so that no later proof unfolds a record
update.
-/

namespace Sys2Proof.Machine

@[simp] theorem State.emit_cfg (s : State) (e : Event) : (s.emit e).cfg = s.cfg := rfl
@[simp] theorem State.emit_en (s : State) (e : Event) : (s.emit e).en = s.en := rfl
@[simp] theorem State.emit_selLines (s : State) (e : Event) : (s.emit e).selLines = s.selLines := rfl
@[simp] theorem State.emit_ph (s : State) (e : Event) : (s.emit e).ph = s.ph := rfl
@[simp] theorem State.emit_opl (s : State) (e : Event) : (s.emit e).opl = s.opl := rfl
@[simp] theorem State.emit_ch (s : State) (e : Event) : (s.emit e).ch = s.ch := rfl
@[simp] theorem State.emit_addr (s : State) (e : Event) : (s.emit e).addr = s.addr := rfl
@[simp] theorem State.emit_wd (s : State) (e : Event) : (s.emit e).wd = s.wd := rfl
@[simp] theorem State.emit_rd (s : State) (e : Event) : (s.emit e).rd = s.rd := rfl
@[simp] theorem State.emit_st (s : State) (e : Event) : (s.emit e).st = s.st := rfl
@[simp] theorem State.emit_mem (s : State) (e : Event) : (s.emit e).mem = s.mem := rfl
@[simp] theorem State.emit_fr (s : State) (e : Event) : (s.emit e).fr = s.fr := rfl
@[simp] theorem State.emit_rx (s : State) (e : Event) : (s.emit e).rx = s.rx := rfl
@[simp] theorem State.emit_port (s : State) (e : Event) : (s.emit e).port = s.port := rfl
@[simp] theorem State.emit_env (s : State) (e : Event) : (s.emit e).env = s.env := rfl
@[simp] theorem State.emit_trace (s : State) (e : Event) : (s.emit e).trace = s.trace ++ [e] := rfl
@[simp] theorem State.emit_draws (s : State) (e : Event) : (s.emit e).draws = s.draws := rfl

@[simp] theorem State.envNext_cfg (s : State) : (s.envNext).cfg = s.cfg := rfl
@[simp] theorem State.envNext_en (s : State) : (s.envNext).en = s.en := rfl
@[simp] theorem State.envNext_selLines (s : State) : (s.envNext).selLines = s.selLines := rfl
@[simp] theorem State.envNext_ph (s : State) : (s.envNext).ph = s.ph := rfl
@[simp] theorem State.envNext_opl (s : State) : (s.envNext).opl = s.opl := rfl
@[simp] theorem State.envNext_ch (s : State) : (s.envNext).ch = s.ch := rfl
@[simp] theorem State.envNext_addr (s : State) : (s.envNext).addr = s.addr := rfl
@[simp] theorem State.envNext_wd (s : State) : (s.envNext).wd = s.wd := rfl
@[simp] theorem State.envNext_rd (s : State) : (s.envNext).rd = s.rd := rfl
@[simp] theorem State.envNext_st (s : State) : (s.envNext).st = s.st := rfl
@[simp] theorem State.envNext_mem (s : State) : (s.envNext).mem = s.mem := rfl
@[simp] theorem State.envNext_fr (s : State) : (s.envNext).fr = s.fr := rfl
@[simp] theorem State.envNext_rx (s : State) : (s.envNext).rx = s.rx := rfl
@[simp] theorem State.envNext_port (s : State) : (s.envNext).port = s.port := rfl
@[simp] theorem State.envNext_env (s : State) : (s.envNext).env = s.env.tail := rfl
@[simp] theorem State.envNext_trace (s : State) : (s.envNext).trace = s.trace := rfl
@[simp] theorem State.envNext_draws (s : State) : (s.envNext).draws = s.draws := rfl

@[simp] theorem State.goto_cfg (s : State) (p : Phase) : (s.goto p).cfg = s.cfg := rfl
@[simp] theorem State.goto_en (s : State) (p : Phase) : (s.goto p).en = s.en := rfl
@[simp] theorem State.goto_selLines (s : State) (p : Phase) : (s.goto p).selLines = s.selLines := rfl
@[simp] theorem State.goto_ph (s : State) (p : Phase) : (s.goto p).ph = p := rfl
@[simp] theorem State.goto_opl (s : State) (p : Phase) : (s.goto p).opl = s.opl := rfl
@[simp] theorem State.goto_ch (s : State) (p : Phase) : (s.goto p).ch = s.ch := rfl
@[simp] theorem State.goto_addr (s : State) (p : Phase) : (s.goto p).addr = s.addr := rfl
@[simp] theorem State.goto_wd (s : State) (p : Phase) : (s.goto p).wd = s.wd := rfl
@[simp] theorem State.goto_rd (s : State) (p : Phase) : (s.goto p).rd = s.rd := rfl
@[simp] theorem State.goto_st (s : State) (p : Phase) : (s.goto p).st = s.st := rfl
@[simp] theorem State.goto_mem (s : State) (p : Phase) : (s.goto p).mem = s.mem := rfl
@[simp] theorem State.goto_fr (s : State) (p : Phase) : (s.goto p).fr = s.fr := rfl
@[simp] theorem State.goto_rx (s : State) (p : Phase) : (s.goto p).rx = s.rx := rfl
@[simp] theorem State.goto_port (s : State) (p : Phase) : (s.goto p).port = s.port := rfl
@[simp] theorem State.goto_env (s : State) (p : Phase) : (s.goto p).env = s.env := rfl
@[simp] theorem State.goto_trace (s : State) (p : Phase) : (s.goto p).trace = s.trace := rfl
@[simp] theorem State.goto_draws (s : State) (p : Phase) : (s.goto p).draws = s.draws := rfl

@[simp] theorem State.endCommand_cfg (s : State) : (s.endCommand).cfg = s.cfg := rfl
@[simp] theorem State.endCommand_en (s : State) : (s.endCommand).en = s.en := rfl
@[simp] theorem State.endCommand_selLines (s : State) : (s.endCommand).selLines = s.selLines := rfl
@[simp] theorem State.endCommand_ph (s : State) : (s.endCommand).ph = .wait := rfl
@[simp] theorem State.endCommand_opl (s : State) : (s.endCommand).opl = s.opl := rfl
@[simp] theorem State.endCommand_ch (s : State) : (s.endCommand).ch = s.ch := rfl
@[simp] theorem State.endCommand_addr (s : State) : (s.endCommand).addr = s.addr := rfl
@[simp] theorem State.endCommand_wd (s : State) : (s.endCommand).wd = s.wd := rfl
@[simp] theorem State.endCommand_rd (s : State) : (s.endCommand).rd = s.rd := rfl
@[simp] theorem State.endCommand_st (s : State) : (s.endCommand).st = s.st := rfl
@[simp] theorem State.endCommand_mem (s : State) : (s.endCommand).mem = s.mem := rfl
@[simp] theorem State.endCommand_fr (s : State) : (s.endCommand).fr = s.fr := rfl
@[simp] theorem State.endCommand_rx (s : State) : (s.endCommand).rx = s.rx := rfl
@[simp] theorem State.endCommand_port (s : State) : (s.endCommand).port = s.port := rfl
@[simp] theorem State.endCommand_env (s : State) : (s.endCommand).env = s.env := rfl
@[simp] theorem State.endCommand_trace (s : State) : (s.endCommand).trace = s.trace := rfl
@[simp] theorem State.endCommand_draws (s : State) : (s.endCommand).draws = s.draws := rfl

@[simp] theorem State.driveLines_cfg (s : State) (en : Bool) (p : SelLines) : (s.driveLines en p).cfg = s.cfg := rfl
@[simp] theorem State.driveLines_en (s : State) (en : Bool) (p : SelLines) : (s.driveLines en p).en = en := rfl
@[simp] theorem State.driveLines_selLines (s : State) (en : Bool) (p : SelLines) : (s.driveLines en p).selLines = p := rfl
@[simp] theorem State.driveLines_ph (s : State) (en : Bool) (p : SelLines) : (s.driveLines en p).ph = s.ph := rfl
@[simp] theorem State.driveLines_opl (s : State) (en : Bool) (p : SelLines) : (s.driveLines en p).opl = s.opl := rfl
@[simp] theorem State.driveLines_ch (s : State) (en : Bool) (p : SelLines) : (s.driveLines en p).ch = s.ch := rfl
@[simp] theorem State.driveLines_addr (s : State) (en : Bool) (p : SelLines) : (s.driveLines en p).addr = s.addr := rfl
@[simp] theorem State.driveLines_wd (s : State) (en : Bool) (p : SelLines) : (s.driveLines en p).wd = s.wd := rfl
@[simp] theorem State.driveLines_rd (s : State) (en : Bool) (p : SelLines) : (s.driveLines en p).rd = s.rd := rfl
@[simp] theorem State.driveLines_st (s : State) (en : Bool) (p : SelLines) : (s.driveLines en p).st = s.st := rfl
@[simp] theorem State.driveLines_mem (s : State) (en : Bool) (p : SelLines) : (s.driveLines en p).mem = s.mem := rfl
@[simp] theorem State.driveLines_fr (s : State) (en : Bool) (p : SelLines) : (s.driveLines en p).fr = forgetFrames s.sel (decoder en p) s.fr := rfl
@[simp] theorem State.driveLines_rx (s : State) (en : Bool) (p : SelLines) : (s.driveLines en p).rx = s.rx := rfl
@[simp] theorem State.driveLines_port (s : State) (en : Bool) (p : SelLines) : (s.driveLines en p).port = s.port := rfl
@[simp] theorem State.driveLines_env (s : State) (en : Bool) (p : SelLines) : (s.driveLines en p).env = s.env := rfl
@[simp] theorem State.driveLines_trace (s : State) (en : Bool) (p : SelLines) : (s.driveLines en p).trace = s.trace := rfl
@[simp] theorem State.driveLines_draws (s : State) (en : Bool) (p : SelLines) : (s.driveLines en p).draws = s.draws := rfl

@[simp] theorem State.lineWriteEn_cfg (s : State) (v : Bool) : (s.lineWriteEn v).cfg = s.cfg := rfl
@[simp] theorem State.lineWriteEn_en (s : State) (v : Bool) : (s.lineWriteEn v).en = v := rfl
@[simp] theorem State.lineWriteEn_selLines (s : State) (v : Bool) : (s.lineWriteEn v).selLines = s.selLines := rfl
@[simp] theorem State.lineWriteEn_ph (s : State) (v : Bool) : (s.lineWriteEn v).ph = s.ph := rfl
@[simp] theorem State.lineWriteEn_opl (s : State) (v : Bool) : (s.lineWriteEn v).opl = s.opl := rfl
@[simp] theorem State.lineWriteEn_ch (s : State) (v : Bool) : (s.lineWriteEn v).ch = s.ch := rfl
@[simp] theorem State.lineWriteEn_addr (s : State) (v : Bool) : (s.lineWriteEn v).addr = s.addr := rfl
@[simp] theorem State.lineWriteEn_wd (s : State) (v : Bool) : (s.lineWriteEn v).wd = s.wd := rfl
@[simp] theorem State.lineWriteEn_rd (s : State) (v : Bool) : (s.lineWriteEn v).rd = s.rd := rfl
@[simp] theorem State.lineWriteEn_st (s : State) (v : Bool) : (s.lineWriteEn v).st = s.st := rfl
@[simp] theorem State.lineWriteEn_mem (s : State) (v : Bool) : (s.lineWriteEn v).mem = s.mem := rfl
@[simp] theorem State.lineWriteEn_fr (s : State) (v : Bool) : (s.lineWriteEn v).fr = forgetFrames s.sel (decoder v s.selLines) s.fr := rfl
@[simp] theorem State.lineWriteEn_rx (s : State) (v : Bool) : (s.lineWriteEn v).rx = s.rx := rfl
@[simp] theorem State.lineWriteEn_port (s : State) (v : Bool) : (s.lineWriteEn v).port = s.port := rfl
@[simp] theorem State.lineWriteEn_env (s : State) (v : Bool) : (s.lineWriteEn v).env = s.env := rfl
@[simp] theorem State.lineWriteEn_trace (s : State) (v : Bool) : (s.lineWriteEn v).trace = s.trace ++ [.lwEn v] := rfl
@[simp] theorem State.lineWriteEn_draws (s : State) (v : Bool) : (s.lineWriteEn v).draws = s.draws := rfl

@[simp] theorem State.lineWriteSel_cfg (s : State) (p : SelLines) : (s.lineWriteSel p).cfg = s.cfg := rfl
@[simp] theorem State.lineWriteSel_en (s : State) (p : SelLines) : (s.lineWriteSel p).en = s.en := rfl
@[simp] theorem State.lineWriteSel_selLines (s : State) (p : SelLines) : (s.lineWriteSel p).selLines = p := rfl
@[simp] theorem State.lineWriteSel_ph (s : State) (p : SelLines) : (s.lineWriteSel p).ph = s.ph := rfl
@[simp] theorem State.lineWriteSel_opl (s : State) (p : SelLines) : (s.lineWriteSel p).opl = s.opl := rfl
@[simp] theorem State.lineWriteSel_ch (s : State) (p : SelLines) : (s.lineWriteSel p).ch = s.ch := rfl
@[simp] theorem State.lineWriteSel_addr (s : State) (p : SelLines) : (s.lineWriteSel p).addr = s.addr := rfl
@[simp] theorem State.lineWriteSel_wd (s : State) (p : SelLines) : (s.lineWriteSel p).wd = s.wd := rfl
@[simp] theorem State.lineWriteSel_rd (s : State) (p : SelLines) : (s.lineWriteSel p).rd = s.rd := rfl
@[simp] theorem State.lineWriteSel_st (s : State) (p : SelLines) : (s.lineWriteSel p).st = s.st := rfl
@[simp] theorem State.lineWriteSel_mem (s : State) (p : SelLines) : (s.lineWriteSel p).mem = s.mem := rfl
@[simp] theorem State.lineWriteSel_fr (s : State) (p : SelLines) : (s.lineWriteSel p).fr = forgetFrames s.sel (decoder s.en p) s.fr := rfl
@[simp] theorem State.lineWriteSel_rx (s : State) (p : SelLines) : (s.lineWriteSel p).rx = s.rx := rfl
@[simp] theorem State.lineWriteSel_port (s : State) (p : SelLines) : (s.lineWriteSel p).port = s.port := rfl
@[simp] theorem State.lineWriteSel_env (s : State) (p : SelLines) : (s.lineWriteSel p).env = s.env := rfl
@[simp] theorem State.lineWriteSel_trace (s : State) (p : SelLines) : (s.lineWriteSel p).trace = s.trace ++ [.lwSel p] := rfl
@[simp] theorem State.lineWriteSel_draws (s : State) (p : SelLines) : (s.lineWriteSel p).draws = s.draws := rfl

@[simp] theorem State.respondFree_cfg (s : State) (st : Byte) : (s.respondFree st).cfg = s.cfg := rfl
@[simp] theorem State.respondFree_en (s : State) (st : Byte) : (s.respondFree st).en = s.en := rfl
@[simp] theorem State.respondFree_selLines (s : State) (st : Byte) : (s.respondFree st).selLines = s.selLines := rfl
@[simp] theorem State.respondFree_ph (s : State) (st : Byte) : (s.respondFree st).ph = s.ph := rfl
@[simp] theorem State.respondFree_opl (s : State) (st : Byte) : (s.respondFree st).opl = s.opl := rfl
@[simp] theorem State.respondFree_ch (s : State) (st : Byte) : (s.respondFree st).ch = s.ch := rfl
@[simp] theorem State.respondFree_addr (s : State) (st : Byte) : (s.respondFree st).addr = s.addr := rfl
@[simp] theorem State.respondFree_wd (s : State) (st : Byte) : (s.respondFree st).wd = s.wd := rfl
@[simp] theorem State.respondFree_rd (s : State) (st : Byte) : (s.respondFree st).rd = s.rd := rfl
@[simp] theorem State.respondFree_st (s : State) (st : Byte) : (s.respondFree st).st = s.st := rfl
@[simp] theorem State.respondFree_mem (s : State) (st : Byte) : (s.respondFree st).mem = s.mem := rfl
@[simp] theorem State.respondFree_fr (s : State) (st : Byte) : (s.respondFree st).fr = s.fr := rfl
@[simp] theorem State.respondFree_rx (s : State) (st : Byte) : (s.respondFree st).rx = s.rx := rfl
@[simp] theorem State.respondFree_port (s : State) (st : Byte) : (s.respondFree st).port = s.port := rfl
@[simp] theorem State.respondFree_env (s : State) (st : Byte) : (s.respondFree st).env = s.env := rfl
@[simp] theorem State.respondFree_trace (s : State) (st : Byte) : (s.respondFree st).trace = s.trace ++ [.rsp st (Config.freeByte s.draws)] := rfl
@[simp] theorem State.respondFree_draws (s : State) (st : Byte) : (s.respondFree st).draws = s.draws + 1 := rfl

@[simp] theorem State.raiseAtBoundary_cfg (s : State) (st : Byte) : (s.raiseAtBoundary st).cfg = s.cfg := rfl
@[simp] theorem State.raiseAtBoundary_en (s : State) (st : Byte) : (s.raiseAtBoundary st).en = s.en := rfl
@[simp] theorem State.raiseAtBoundary_selLines (s : State) (st : Byte) : (s.raiseAtBoundary st).selLines = s.selLines := rfl
@[simp] theorem State.raiseAtBoundary_ph (s : State) (st : Byte) : (s.raiseAtBoundary st).ph = s.ph := rfl
@[simp] theorem State.raiseAtBoundary_opl (s : State) (st : Byte) : (s.raiseAtBoundary st).opl = s.opl := rfl
@[simp] theorem State.raiseAtBoundary_ch (s : State) (st : Byte) : (s.raiseAtBoundary st).ch = s.ch := rfl
@[simp] theorem State.raiseAtBoundary_addr (s : State) (st : Byte) : (s.raiseAtBoundary st).addr = s.addr := rfl
@[simp] theorem State.raiseAtBoundary_wd (s : State) (st : Byte) : (s.raiseAtBoundary st).wd = s.wd := rfl
@[simp] theorem State.raiseAtBoundary_rd (s : State) (st : Byte) : (s.raiseAtBoundary st).rd = s.rd := rfl
@[simp] theorem State.raiseAtBoundary_st (s : State) (st : Byte) : (s.raiseAtBoundary st).st = s.st := rfl
@[simp] theorem State.raiseAtBoundary_mem (s : State) (st : Byte) : (s.raiseAtBoundary st).mem = s.mem := rfl
@[simp] theorem State.raiseAtBoundary_fr (s : State) (st : Byte) : (s.raiseAtBoundary st).fr = s.fr := rfl
@[simp] theorem State.raiseAtBoundary_rx (s : State) (st : Byte) : (s.raiseAtBoundary st).rx = s.rx := rfl
@[simp] theorem State.raiseAtBoundary_port (s : State) (st : Byte) : (s.raiseAtBoundary st).port = s.port := rfl
@[simp] theorem State.raiseAtBoundary_env (s : State) (st : Byte) : (s.raiseAtBoundary st).env = s.env := rfl
@[simp] theorem State.raiseAtBoundary_trace (s : State) (st : Byte) : (s.raiseAtBoundary st).trace = s.trace ++ [.rsp st (Config.freeByte s.draws)] := rfl
@[simp] theorem State.raiseAtBoundary_draws (s : State) (st : Byte) : (s.raiseAtBoundary st).draws = s.draws + 1 := rfl

@[simp] theorem State.exchange_cfg (s : State) (tx : Byte) (r : Reply) : (s.exchange tx r).cfg = s.cfg := rfl
@[simp] theorem State.exchange_en (s : State) (tx : Byte) (r : Reply) : (s.exchange tx r).en = s.en := rfl
@[simp] theorem State.exchange_selLines (s : State) (tx : Byte) (r : Reply) : (s.exchange tx r).selLines = s.selLines := rfl
@[simp] theorem State.exchange_ph (s : State) (tx : Byte) (r : Reply) : (s.exchange tx r).ph = s.ph := rfl
@[simp] theorem State.exchange_opl (s : State) (tx : Byte) (r : Reply) : (s.exchange tx r).opl = s.opl := rfl
@[simp] theorem State.exchange_ch (s : State) (tx : Byte) (r : Reply) : (s.exchange tx r).ch = s.ch := rfl
@[simp] theorem State.exchange_addr (s : State) (tx : Byte) (r : Reply) : (s.exchange tx r).addr = s.addr := rfl
@[simp] theorem State.exchange_wd (s : State) (tx : Byte) (r : Reply) : (s.exchange tx r).wd = s.wd := rfl
@[simp] theorem State.exchange_rd (s : State) (tx : Byte) (r : Reply) : (s.exchange tx r).rd = s.rd := rfl
@[simp] theorem State.exchange_st (s : State) (tx : Byte) (r : Reply) : (s.exchange tx r).st = s.st := rfl
@[simp] theorem State.exchange_mem (s : State) (tx : Byte) (r : Reply) : (s.exchange tx r).mem = r.mem := rfl
@[simp] theorem State.exchange_fr (s : State) (tx : Byte) (r : Reply) : (s.exchange tx r).fr = r.fr := rfl
@[simp] theorem State.exchange_rx (s : State) (tx : Byte) (r : Reply) : (s.exchange tx r).rx = r.rx := rfl
@[simp] theorem State.exchange_port (s : State) (tx : Byte) (r : Reply) : (s.exchange tx r).port = s.port := rfl
@[simp] theorem State.exchange_env (s : State) (tx : Byte) (r : Reply) : (s.exchange tx r).env = s.env := rfl
@[simp] theorem State.exchange_trace (s : State) (tx : Byte) (r : Reply) : (s.exchange tx r).trace = s.trace ++ [.xf tx r.rx] := rfl
@[simp] theorem State.exchange_draws (s : State) (tx : Byte) (r : Reply) : (s.exchange tx r).draws = r.draws := rfl

@[simp] theorem State.xfer_cfg (s : State) (b : Bool) (tx : Byte) : (s.xfer b tx).cfg = s.cfg := rfl
@[simp] theorem State.xfer_en (s : State) (b : Bool) (tx : Byte) : (s.xfer b tx).en = s.en := rfl
@[simp] theorem State.xfer_selLines (s : State) (b : Bool) (tx : Byte) : (s.xfer b tx).selLines = s.selLines := rfl
@[simp] theorem State.xfer_ph (s : State) (b : Bool) (tx : Byte) : (s.xfer b tx).ph = s.ph := rfl
@[simp] theorem State.xfer_opl (s : State) (b : Bool) (tx : Byte) : (s.xfer b tx).opl = s.opl := rfl
@[simp] theorem State.xfer_ch (s : State) (b : Bool) (tx : Byte) : (s.xfer b tx).ch = s.ch := rfl
@[simp] theorem State.xfer_addr (s : State) (b : Bool) (tx : Byte) : (s.xfer b tx).addr = s.addr := rfl
@[simp] theorem State.xfer_wd (s : State) (b : Bool) (tx : Byte) : (s.xfer b tx).wd = s.wd := rfl
@[simp] theorem State.xfer_rd (s : State) (b : Bool) (tx : Byte) : (s.xfer b tx).rd = s.rd := rfl
@[simp] theorem State.xfer_st (s : State) (b : Bool) (tx : Byte) : (s.xfer b tx).st = s.st := rfl
@[simp] theorem State.xfer_mem (s : State) (b : Bool) (tx : Byte) : (s.xfer b tx).mem = (busReply b tx s).mem := rfl
@[simp] theorem State.xfer_fr (s : State) (b : Bool) (tx : Byte) : (s.xfer b tx).fr = (busReply b tx s).fr := rfl
@[simp] theorem State.xfer_rx (s : State) (b : Bool) (tx : Byte) : (s.xfer b tx).rx = (busReply b tx s).rx := rfl
@[simp] theorem State.xfer_port (s : State) (b : Bool) (tx : Byte) : (s.xfer b tx).port = s.port := rfl
@[simp] theorem State.xfer_env (s : State) (b : Bool) (tx : Byte) : (s.xfer b tx).env = s.env := rfl
@[simp] theorem State.xfer_trace (s : State) (b : Bool) (tx : Byte) : (s.xfer b tx).trace = s.trace ++ [.xf tx (busReply b tx s).rx] := rfl
@[simp] theorem State.xfer_draws (s : State) (b : Bool) (tx : Byte) : (s.xfer b tx).draws = (busReply b tx s).draws := rfl

@[simp] theorem State.takeAbort_cfg (s : State) : (s.takeAbort).cfg = s.cfg := rfl
@[simp] theorem State.takeAbort_en (s : State) : (s.takeAbort).en = s.en := rfl
@[simp] theorem State.takeAbort_selLines (s : State) : (s.takeAbort).selLines = s.selLines := rfl
@[simp] theorem State.takeAbort_ph (s : State) : (s.takeAbort).ph = .release := rfl
@[simp] theorem State.takeAbort_opl (s : State) : (s.takeAbort).opl = s.opl := rfl
@[simp] theorem State.takeAbort_ch (s : State) : (s.takeAbort).ch = s.ch := rfl
@[simp] theorem State.takeAbort_addr (s : State) : (s.takeAbort).addr = s.addr := rfl
@[simp] theorem State.takeAbort_wd (s : State) : (s.takeAbort).wd = s.wd := rfl
@[simp] theorem State.takeAbort_rd (s : State) : (s.takeAbort).rd = s.rd := rfl
@[simp] theorem State.takeAbort_st (s : State) : (s.takeAbort).st = statusAborted := rfl
@[simp] theorem State.takeAbort_mem (s : State) : (s.takeAbort).mem = s.interruptedMem := rfl
@[simp] theorem State.takeAbort_fr (s : State) : (s.takeAbort).fr = s.fr := rfl
@[simp] theorem State.takeAbort_rx (s : State) : (s.takeAbort).rx = s.rx := rfl
@[simp] theorem State.takeAbort_port (s : State) : (s.takeAbort).port = s.port := rfl
@[simp] theorem State.takeAbort_env (s : State) : (s.takeAbort).env = s.env := rfl
@[simp] theorem State.takeAbort_trace (s : State) : (s.takeAbort).trace = s.trace ++ [.abt] := rfl
@[simp] theorem State.takeAbort_draws (s : State) : (s.takeAbort).draws = s.draws + 1 := rfl

@[simp] theorem State.takeReset_cfg (s : State) : (s.takeReset).cfg = s.cfg := rfl
@[simp] theorem State.takeReset_en (s : State) : (s.takeReset).en = false := rfl
@[simp] theorem State.takeReset_selLines (s : State) : (s.takeReset).selLines = s.cfg.resetSel := rfl
@[simp] theorem State.takeReset_ph (s : State) : (s.takeReset).ph = .wait := rfl
@[simp] theorem State.takeReset_opl (s : State) : (s.takeReset).opl = s.opl := rfl
@[simp] theorem State.takeReset_ch (s : State) : (s.takeReset).ch = s.ch := rfl
@[simp] theorem State.takeReset_addr (s : State) : (s.takeReset).addr = s.addr := rfl
@[simp] theorem State.takeReset_wd (s : State) : (s.takeReset).wd = s.wd := rfl
@[simp] theorem State.takeReset_rd (s : State) : (s.takeReset).rd = s.rd := rfl
@[simp] theorem State.takeReset_st (s : State) : (s.takeReset).st = statusOk := rfl
@[simp] theorem State.takeReset_mem (s : State) : (s.takeReset).mem = s.interruptedMem := rfl
@[simp] theorem State.takeReset_fr (s : State) : (s.takeReset).fr = forgetFrames s.sel none s.fr := by
  show forgetFrames none none (forgetFrames s.sel none s.fr) = forgetFrames s.sel none s.fr
  rw [forgetFrames, if_pos rfl]
@[simp] theorem State.takeReset_rx (s : State) : (s.takeReset).rx = s.rx := rfl
@[simp] theorem State.takeReset_port (s : State) : (s.takeReset).port = s.port := rfl
@[simp] theorem State.takeReset_env (s : State) : (s.takeReset).env = s.env := rfl
@[simp] theorem State.takeReset_trace (s : State) : (s.takeReset).trace = s.trace ++ [.rst] := rfl
@[simp] theorem State.takeReset_draws (s : State) : (s.takeReset).draws = s.draws + 1 := rfl

@[simp] theorem State.accept_cfg (s : State) (op ch : Byte) (addr : Nat) (data : Byte) : (s.accept op ch addr data).cfg = s.cfg := rfl
@[simp] theorem State.accept_en (s : State) (op ch : Byte) (addr : Nat) (data : Byte) : (s.accept op ch addr data).en = s.en := rfl
@[simp] theorem State.accept_selLines (s : State) (op ch : Byte) (addr : Nat) (data : Byte) : (s.accept op ch addr data).selLines = s.selLines := rfl
@[simp] theorem State.accept_ph (s : State) (op ch : Byte) (addr : Nat) (data : Byte) : (s.accept op ch addr data).ph = if op = 0x00#8 then .release else .setSel := rfl
@[simp] theorem State.accept_opl (s : State) (op ch : Byte) (addr : Nat) (data : Byte) : (s.accept op ch addr data).opl = op := rfl
@[simp] theorem State.accept_ch (s : State) (op ch : Byte) (addr : Nat) (data : Byte) : (s.accept op ch addr data).ch = ch := rfl
@[simp] theorem State.accept_addr (s : State) (op ch : Byte) (addr : Nat) (data : Byte) : (s.accept op ch addr data).addr = BitVec.ofNat 24 addr := rfl
@[simp] theorem State.accept_wd (s : State) (op ch : Byte) (addr : Nat) (data : Byte) : (s.accept op ch addr data).wd = data := rfl
@[simp] theorem State.accept_rd (s : State) (op ch : Byte) (addr : Nat) (data : Byte) : (s.accept op ch addr data).rd = s.rd := rfl
@[simp] theorem State.accept_st (s : State) (op ch : Byte) (addr : Nat) (data : Byte) : (s.accept op ch addr data).st = statusOk := rfl
@[simp] theorem State.accept_mem (s : State) (op ch : Byte) (addr : Nat) (data : Byte) : (s.accept op ch addr data).mem = s.mem := rfl
@[simp] theorem State.accept_fr (s : State) (op ch : Byte) (addr : Nat) (data : Byte) : (s.accept op ch addr data).fr = s.fr := rfl
@[simp] theorem State.accept_rx (s : State) (op ch : Byte) (addr : Nat) (data : Byte) : (s.accept op ch addr data).rx = s.rx := rfl
@[simp] theorem State.accept_port (s : State) (op ch : Byte) (addr : Nat) (data : Byte) : (s.accept op ch addr data).port = s.port := rfl
@[simp] theorem State.accept_env (s : State) (op ch : Byte) (addr : Nat) (data : Byte) : (s.accept op ch addr data).env = s.env := rfl
@[simp] theorem State.accept_trace (s : State) (op ch : Byte) (addr : Nat) (data : Byte) : (s.accept op ch addr data).trace = s.trace := rfl
@[simp] theorem State.accept_draws (s : State) (op ch : Byte) (addr : Nat) (data : Byte) : (s.accept op ch addr data).draws = s.draws := rfl

@[simp] theorem State.takeWord_cfg (s : State) (cw : CommandWord) (rest : List CommandWord) : (s.takeWord cw rest).cfg = s.cfg := rfl
@[simp] theorem State.takeWord_en (s : State) (cw : CommandWord) (rest : List CommandWord) : (s.takeWord cw rest).en = s.en := rfl
@[simp] theorem State.takeWord_selLines (s : State) (cw : CommandWord) (rest : List CommandWord) : (s.takeWord cw rest).selLines = s.selLines := rfl
@[simp] theorem State.takeWord_ph (s : State) (cw : CommandWord) (rest : List CommandWord) : (s.takeWord cw rest).ph = s.ph := rfl
@[simp] theorem State.takeWord_opl (s : State) (cw : CommandWord) (rest : List CommandWord) : (s.takeWord cw rest).opl = s.opl := rfl
@[simp] theorem State.takeWord_ch (s : State) (cw : CommandWord) (rest : List CommandWord) : (s.takeWord cw rest).ch = s.ch := rfl
@[simp] theorem State.takeWord_addr (s : State) (cw : CommandWord) (rest : List CommandWord) : (s.takeWord cw rest).addr = s.addr := rfl
@[simp] theorem State.takeWord_wd (s : State) (cw : CommandWord) (rest : List CommandWord) : (s.takeWord cw rest).wd = s.wd := rfl
@[simp] theorem State.takeWord_rd (s : State) (cw : CommandWord) (rest : List CommandWord) : (s.takeWord cw rest).rd = s.rd := rfl
@[simp] theorem State.takeWord_st (s : State) (cw : CommandWord) (rest : List CommandWord) : (s.takeWord cw rest).st = s.st := rfl
@[simp] theorem State.takeWord_mem (s : State) (cw : CommandWord) (rest : List CommandWord) : (s.takeWord cw rest).mem = s.mem := rfl
@[simp] theorem State.takeWord_fr (s : State) (cw : CommandWord) (rest : List CommandWord) : (s.takeWord cw rest).fr = s.fr := rfl
@[simp] theorem State.takeWord_rx (s : State) (cw : CommandWord) (rest : List CommandWord) : (s.takeWord cw rest).rx = s.rx := rfl
@[simp] theorem State.takeWord_port (s : State) (cw : CommandWord) (rest : List CommandWord) : (s.takeWord cw rest).port = rest := rfl
@[simp] theorem State.takeWord_env (s : State) (cw : CommandWord) (rest : List CommandWord) : (s.takeWord cw rest).env = s.env := rfl
@[simp] theorem State.takeWord_trace (s : State) (cw : CommandWord) (rest : List CommandWord) : (s.takeWord cw rest).trace = s.trace ++ [.cmd cw] := rfl
@[simp] theorem State.takeWord_draws (s : State) (cw : CommandWord) (rest : List CommandWord) : (s.takeWord cw rest).draws = s.draws := rfl

/-- The asserted output does not change: the devices remember. -/
@[simp] theorem forgetFrames_same (o : Option Chan) (f : Frames) : forgetFrames o o f = f := if_pos rfl

/-- Nothing is forgotten where nothing was received. -/
@[simp] theorem forgetFrames_noFrames (o p : Option Chan) : forgetFrames o p noFrames = noFrames := by
  unfold forgetFrames; split <;> rfl

/-- The asserted output changes: every device has received nothing. -/
theorem forgetFrames_change {o p : Option Chan} (h : p ≠ o) (f : Frames) : forgetFrames o p f = noFrames :=
  if_neg h

end Sys2Proof.Machine
end

