-- ==== Sys2Proof/Laws/PerInstr.lean ====
section
/-!
SUPPORT. Statements made of every instruction, one lemma per constructor. `DecodedWellFormed`: what
the decoder reads is an instruction some word stands for; a read frame is one of this CSMUX exactly
if its last byte is `DUMMY_BYTE` (spec/30_encoding.md R81, R84, R89).
-/

namespace Sys2Proof.Laws.DecodedWellFormed

/-- Whatever word `i` is decoded from, `i` is well formed; for a read frame, if its last byte is the
dummy byte. -/
def Statement (i : Instr) : Prop :=
  ∀ (cfg : Config) (c : Code), decode c = .ok i →
    (∀ a d, i = .readFrame a d → d = cfg.dummyByte) → i.wf cfg = true

/-- An address that comes from a decoded word fits 24 bits. -/
theorem decoded_address_fits {c : Code} {ch : Byte} {addr : Nat} {data : Byte}
    (h : decode c = .ok (.write ch addr data) ∨ decode c = .ok (.read ch addr data)) : addr < 2 ^ 24 := by
  cases c with
  | command cw =>
    simp only [decode, decodeCommand] at h
    rcases h with h | h <;> (repeat' split at h) <;> cases h <;> exact (cwAddr cw).isLt
  | frame f =>
    simp only [decode, decodeFrame] at h
    rcases h with h | h <;> (repeat' split at h) <;> cases h

theorem idle (ch : Byte) (addr : Addr) (data : Byte) : Statement (.idle ch addr data) :=
  fun _ _ _ _ => rfl

theorem write (ch : Byte) (addr : Nat) (data : Byte) : Statement (.write ch addr data) :=
  fun _ _ h _ => decide_eq_true (decoded_address_fits (.inl h))

theorem read (ch : Byte) (addr : Nat) (data : Byte) : Statement (.read ch addr data) :=
  fun _ _ h _ => decide_eq_true (decoded_address_fits (.inr h))

theorem select (ch : Byte) (addr : Addr) (data : Byte) : Statement (.select ch addr data) :=
  fun _ _ _ _ => rfl

theorem reserved01 (ch : Byte) (addr : Addr) (data : Byte) : Statement (.reserved01 ch addr data) :=
  fun _ _ _ _ => rfl

theorem reserved05 (ch : Byte) (addr : Addr) (data : Byte) : Statement (.reserved05 ch addr data) :=
  fun _ _ _ _ => rfl

theorem writeFrame (addr : Addr) (data : Byte) : Statement (.writeFrame addr data) :=
  fun _ _ _ _ => rfl

theorem readFrame (addr : Addr) (dummy : Byte) : Statement (.readFrame addr dummy) :=
  fun _ _ _ h => decide_eq_true (h addr dummy rfl)

end Sys2Proof.Laws.DecodedWellFormed
end

