-- ==== Sys2Proof/Laws/Sequencer.lean ====
section
/-!
SUPPORT. What the environment's inputs, one step of the sequencer, the boundary step and a run of
phases can do, said once each; provers cite these and do not unfold the definitions.
-/

namespace Sys2Proof.Machine

/-! ## The environment's inputs -/

/-- A property of the next `n + 1` inputs holds of the present one. -/
theorem env_now {P : EnvIn → Prop} (hq : P EnvIn.quiet) {l : List EnvIn} {n : Nat}
    (h : ∀ e ∈ l.take (n + 1), P e) : P (l.headD EnvIn.quiet) := by
  cases l with
  | nil => exact hq
  | cons e l => exact h e (by simp)

/-- A property of the next `n + 1` inputs holds of the `n` after the present one. -/
theorem env_next {P : EnvIn → Prop} {l : List EnvIn} {n : Nat} (h : ∀ e ∈ l.take (n + 1), P e) :
    ∀ e ∈ l.tail.take n, P e := by
  cases l with
  | nil => simp
  | cons e l => exact fun x hx => h x (List.mem_cons_of_mem e hx)

/-! ## Lines -/

/-- The asserted output after a release is none, whatever the lines were (R117). -/
@[simp] theorem decoder_false (p : SelLines) : decoder false p = none := rfl

/-- With the enable line asserted the decoder asserts the output the select lines show (R69). -/
@[simp] theorem decoder_true (p : SelLines) : decoder true p = some (lineCode p) := rfl

/-- The pattern of a channel shows that channel's number (R88). -/
@[simp] theorem lineCode_pat (c : Byte) : lineCode (pat c) = chanOf c := by
  revert c; decide

/-- The select lines are the pattern of the number they show (R88). -/
theorem pat_of_code {p : SelLines} {c : Byte} (h : (lineCode p).setWidth 8 = c) : pat c = p := by
  subst h
  obtain ⟨a, b, c⟩ := p
  revert a b c; decide

/-- A channel number below 8 is its three low bits (R140). -/
theorem chanOf_setWidth {c : Byte} (h : c.toNat < 8) : (chanOf c).setWidth 8 = c := by
  apply BitVec.eq_of_toNat_eq
  simp only [chanOf, BitVec.toNat_setWidth]
  omega

/-- The number of a channel below 8. -/
theorem chanOf_toNat {c : Byte} (h : c.toNat < 8) : (chanOf c).toNat = c.toNat := by
  simp only [chanOf, BitVec.toNat_setWidth]
  omega

/-! ## The boundary -/

/-- An admitted command (R152). -/
theorem boundary_admitted {s : State} {op ch : Byte} {addr : Nat} {data : Byte}
    (h : boundaryStatus op ch addr s = statusOk) : s.boundary op ch addr data = s.accept op ch addr data :=
  if_pos h

/-- A command that meets a condition at the boundary gets its response and nothing else happens
(R179). -/
theorem boundary_refused {s : State} {op ch : Byte} {addr : Nat} {data : Byte}
    (h : boundaryStatus op ch addr s ≠ statusOk) :
    s.boundary op ch addr data = s.respondFree (boundaryStatus op ch addr s) :=
  if_neg h

/-- A refused command is over at once. -/
theorem runCommand_refused {s : State} {op ch : Byte} {addr : Nat} {data : Byte} (hw : s.ph = .wait)
    (h : boundaryStatus op ch addr s ≠ statusOk) :
    runCommand op ch addr data s = .next (s.respondFree (boundaryStatus op ch addr s)) := by
  rw [runCommand, if_pos hw, boundary_refused h, runPhases, if_pos (by simpa using hw)]

/-- An admitted command runs its phases. -/
theorem runCommand_admitted {s : State} {op ch : Byte} {addr : Nat} {data : Byte} (hw : s.ph = .wait)
    (h : boundaryStatus op ch addr s = statusOk) :
    runCommand op ch addr data s = runPhases 9 (s.accept op ch addr data) := by
  rw [runCommand, if_pos hw, boundary_admitted h]

/-- A WRITE or READ of a valid channel, with a 24-bit address and no other channel asserted, is admitted
(R152). -/
theorem boundaryStatus_transaction {op ch : Byte} {addr : Nat} {s : State}
    (ho : op = 0x02#8 ∨ op = 0x03#8) (h : ch.toNat < s.cfg.nCh) (ha : addr < 2 ^ 24)
    (hm : s.MaySelect ch) : boundaryStatus op ch addr s = statusOk := by
  have hc : isCommandOp op = true := by rcases ho with rfl | rfl <;> rfl
  have h0 : op ≠ 0x00#8 := by rcases ho with rfl | rfl <;> decide
  rw [boundaryStatus, if_neg (by simp [hc]), if_neg h0, if_neg (by omega), if_neg (by omega),
    if_neg (fun ⟨a, b⟩ => b (hm a))]

/-- A SELECT of a valid channel with no other channel asserted is admitted (R111). -/
theorem boundaryStatus_select {ch : Byte} {addr : Nat} {s : State} (h : ch.toNat < s.cfg.nCh)
    (hm : s.MaySelect ch) : boundaryStatus 0x04#8 ch addr s = statusOk := by
  rw [boundaryStatus, if_neg (by decide), if_neg (by decide), if_neg (by omega), if_neg (by simp),
    if_neg (fun ⟨a, b⟩ => b (hm a))]

/-- Writing the select lines of an allowed selection changes no asserted output, so no device forgets
anything (R114). -/
theorem forgetFrames_selection {s : State} {ch : Byte} (hm : s.MaySelect ch) :
    forgetFrames s.sel (decoder s.en (pat ch)) s.fr = s.fr := by
  unfold State.sel
  cases he : s.en with
  | false => simp
  | true => rw [pat_of_code (p := s.selLines) (hm he), forgetFrames_same]

/-! ## One step of the sequencer -/

/-- Reset wins from any state (R200). -/
theorem seqStep_reset {s : State} (h : s.envNow.reset = true) : seqStep s = .next s.envNext.takeReset := by
  simp [seqStep, h]

/-- An abort request is taken at the entry of phases 1 to 7 (R154). -/
theorem seqStep_abort {s : State} (hr : s.envNow.reset = false) (ha : s.envNow.abort = true)
    (hp : s.ph.abortable = true) : seqStep s = .next s.envNext.takeAbort := by
  simp [seqStep, hr, ha, hp]

/-- Otherwise the phase's action is performed (R151). -/
theorem seqStep_action {s : State} (hr : s.envNow.reset = false)
    (ha : s.envNow.abort = false ∨ s.ph.abortable = false) :
    seqStep s = s.envNext.phaseAction s.envNow.busFault := by
  rcases ha with ha | ha <;> simp [seqStep, hr, ha]

/-- With every input low the phase's action is performed on a fault-free bus. -/
theorem seqStep_quiet {s : State} (h : s.envNow = EnvIn.quiet) : seqStep s = s.envNext.phaseAction false := by
  have := seqStep_action (s := s) (by rw [h]; rfl) (.inl (by rw [h]; rfl))
  rw [this, h]
  rfl

/-- What a step of the sequencer can be: a reset, an abort or the phase's action. -/
theorem seqStep_cases (s : State) :
    (s.envNow.reset = true ∧ seqStep s = .next s.envNext.takeReset) ∨
    (s.envNow.reset = false ∧ s.envNow.abort = true ∧ s.ph.abortable = true ∧
      seqStep s = .next s.envNext.takeAbort) ∨
    (s.envNow.reset = false ∧ seqStep s = s.envNext.phaseAction s.envNow.busFault) := by
  by_cases hr : s.envNow.reset = true
  · exact .inl ⟨hr, seqStep_reset hr⟩
  · have hr : s.envNow.reset = false := by simpa using hr
    by_cases ha : s.envNow.abort = true ∧ s.ph.abortable = true
    · exact .inr (.inl ⟨hr, ha.1, ha.2, seqStep_abort hr ha.1 ha.2⟩)
    · refine .inr (.inr ⟨hr, seqStep_action hr ?_⟩)
      cases h : s.envNow.abort <;> simp_all

/-! ## The rows of the phase table (R151) -/

section PhaseTable

variable {s : State} {b : Bool}

theorem phaseAction_wait (h : s.ph = .wait) : s.phaseAction b = .next s.acceptPhase := by
  simp [State.phaseAction, h]

theorem phaseAction_setSel (h : s.ph = .setSel) :
    s.phaseAction b = .next ((s.lineWriteSel (pat s.ch)).goto .enable) := by
  simp [State.phaseAction, h]

theorem phaseAction_enable {p : Phase} (h : s.ph = .enable) (hp : afterEnable s.opl = some p) :
    s.phaseAction b = .next ((s.lineWriteEn true).goto p) := by
  simp [State.phaseAction, h, hp]

theorem phaseAction_opc (h : s.ph = .opc) : s.phaseAction b = .next ((s.xfer b s.opl).goto .a2) := by
  simp [State.phaseAction, h]

theorem phaseAction_a2 (h : s.ph = .a2) :
    s.phaseAction b = .next ((s.xfer b (addrByte2 s.addr)).goto .a1) := by
  simp [State.phaseAction, h]

theorem phaseAction_a1 (h : s.ph = .a1) :
    s.phaseAction b = .next ((s.xfer b (addrByte1 s.addr)).goto .a0) := by
  simp [State.phaseAction, h]

theorem phaseAction_a0 (h : s.ph = .a0) :
    s.phaseAction b = .next ((s.xfer b (addrByte0 s.addr)).goto .dat) := by
  simp [State.phaseAction, h]

theorem phaseAction_dat_write (h : s.ph = .dat) (ho : s.opl = 0x02#8) :
    s.phaseAction b = .next ((s.xfer b s.wd).goto .release) := by
  simp [State.phaseAction, State.dataPhase, h, ho]

theorem phaseAction_dat_read (h : s.ph = .dat) (ho : s.opl = 0x03#8) :
    s.phaseAction b =
      .next { s.xfer b s.cfg.dummyByte with rd := (s.xfer b s.cfg.dummyByte).rx, ph := .release } := by
  simp [State.phaseAction, State.dataPhase, h, ho]

theorem phaseAction_release (h : s.ph = .release) :
    s.phaseAction b = .next ((s.lineWriteEn false).goto .respond) := by
  simp [State.phaseAction, h]

theorem phaseAction_respond (h : s.ph = .respond) :
    s.phaseAction b = .next s.respondLatched.endCommand := by
  simp [State.phaseAction, h]

end PhaseTable

/-! ## Runs of phases -/

/-- A run that is back in phase 0 has ended. -/
theorem runPhases_wait {s : State} (h : s.ph = .wait) (n : Nat) : runPhases n s = .next s := by
  cases n <;> simp [runPhases, h]

/-- A run takes one step and goes on. -/
theorem runPhases_step {s t : State} (h : s.ph ≠ .wait) (hs : seqStep s = .next t) (n : Nat) :
    runPhases (n + 1) s = runPhases n t := by
  simp [runPhases, h, hs]

/-- A run takes one undisturbed step and goes on. -/
theorem runPhases_quiet {s t : State} {n : Nat} (h : s.ph ≠ .wait)
    (he : ∀ e ∈ s.env.take (n + 1), e = EnvIn.quiet) (ht : s.envNext.phaseAction false = .next t)
    (m : Nat) : runPhases (m + 1) s = runPhases m t :=
  runPhases_step h (by rw [seqStep_quiet (env_now (P := fun e => e = EnvIn.quiet) rfl he), ht]) m

/-! ## Transfers -/

/-- No device has received a byte. -/
@[simp] theorem noFrames_get (k : Chan) : noFrames[k.toNat]'k.isLt = [] := by
  simp [noFrames]

/-- Frame buffers that are empty at every channel are the empty ones. -/
theorem frames_eq_noFrames {f : Frames} (h : ∀ k : Chan, f[k.toNat]'k.isLt = []) : f = noFrames := by
  ext1 i hi
  have hk := h (BitVec.ofNat 3 i)
  have e : (BitVec.ofNat 3 i).toNat = i := by rw [BitVec.toNat_ofNat]; omega
  simp only [e] at hk
  simpa [noFrames] using hk

/-- A transfer leaves the frame buffers of the devices that take no part as they were (R70). -/
theorem busReply_fr_other (b : Bool) (tx : Byte) (s : State) {j : Chan} (h : s.device ≠ some j) :
    ((busReply b tx s).fr)[j.toNat]'j.isLt = s.frameOf j := by
  cases hd : s.device with
  | none => simp only [busReply, hd]; rfl
  | some k =>
    have hjk : k.toNat ≠ j.toNat := fun e => h (by rw [hd, BitVec.eq_of_toNat_eq e])
    obtain ⟨l, hl⟩ : ∃ l, (busReply b tx s).fr = s.fr.set k.toNat l k.isLt := by
      cases b with
      | true => exact ⟨_, by simp only [busReply, hd]; rfl⟩
      | false =>
        simp only [busReply, hd, Bool.false_eq_true, if_false]
        unfold deviceReply
        split <;> first
          | exact ⟨_, rfl⟩
          | (unfold frameReply; split <;> exact ⟨_, rfl⟩)
    simp only [hl]
    rw [Vector.getElem_set_ne _ _ hjk]
    rfl

/-- A transfer leaves the devices that take no part as they were (R61, R70). -/
theorem busReply_read_other (b : Bool) (tx : Byte) (s : State) {j : Chan} (h : s.device ≠ some j)
    (a : Addr) : (busReply b tx s).mem.read j a = s.mem.read j a := by
  unfold busReply
  cases hd : s.device with
  | none => rfl
  | some k =>
    have hjk : j ≠ k := fun e => h (e ▸ hd)
    have hw : ∀ (c : Addr) (v : Byte), (s.mem.write k c v).read j a = s.mem.read j a := fun c v =>
      Memory.writeCells_read_other s.mem hjk [(c, v)] a
    have hc := fun cells => Memory.writeCells_read_other s.mem hjk cells a
    cases b
    · simp only [Bool.false_eq_true, if_false, deviceReply]
      split <;> first
        | rfl
        | exact hc _
        | (unfold frameReply
           split <;> first
             | rfl
             | exact hc _
             | (simp only [storeReply]; split <;> first | exact hw _ _ | exact hc _))
    · exact hc _

/-- A transfer keeps the canonical form of memory. -/
theorem busReply_wf (b : Bool) (tx : Byte) {s : State} (h : s.mem.wf) : (busReply b tx s).mem.wf := by
  unfold busReply
  cases s.device with
  | none => exact h
  | some k =>
    have hw := fun c v => Memory.write_wf h k c v
    have hc := fun cells => Memory.writeCells_wf h k cells
    cases b
    · simp only [Bool.false_eq_true, if_false, deviceReply]
      split <;> first
        | exact h
        | exact hc _
        | (unfold frameReply
           split <;> first
             | exact h
             | exact hc _
             | (simp only [storeReply]; split <;> first | exact hw _ _ | exact hc _))
    · exact hc _

/-- An interrupted command keeps the canonical form of memory. -/
theorem interruptedMem_wf {s : State} (h : s.mem.wf) : s.interruptedMem.wf := by
  unfold State.interruptedMem
  split
  · split
    · exact Memory.write_wf h _ _ _
    · exact Memory.writeCells_wf h _ _
  · exact h

/-- In capacity an interrupted command leaves every byte but the addressed one as it was (R72). -/
theorem interruptedMem_read_elsewhere {s : State} (hc : s.addr.toNat < capOf s.cfg (chanOf s.ch)) {j : Chan}
    {a : Addr} (h : (j, a) ≠ (chanOf s.ch, s.addr)) : s.interruptedMem.read j a = s.mem.read j a := by
  unfold State.interruptedMem
  split
  · rw [inCapacity, if_pos (decide_eq_true hc), Memory.write_read_elsewhere _ h]
  · rfl

/-- An interrupted command leaves the other devices as they were (R72). -/
theorem interruptedMem_read_other (s : State) {j : Chan} (h : j ≠ chanOf s.ch) (a : Addr) :
    s.interruptedMem.read j a = s.mem.read j a := by
  unfold State.interruptedMem
  split
  · split
    · exact Memory.writeCells_read_other s.mem h [(s.addr, _)] a
    · exact Memory.writeCells_read_other s.mem h _ a
  · rfl

end Sys2Proof.Machine
end

