-- ==== Sys2Proof/Tests/Slice0.lean ====
section
/-!
SUPPORT. Tests of single steps against the vectors of spec/95_test_vectors.md, words written out from
the encodings of spec/30_encoding.md, ill-formed terms, and for each statement with hypotheses a state
that meets them.
-/

namespace Sys2Proof.Machine

/-! ## States the tests use -/

/-- The state an outcome gives, the reset state where it gives none. -/
def Test.after (o : Host.Outcome State Fault Refusal) : State :=
  match o with
  | .next s => s
  | .fault _ => State.reset
  | .refused _ => State.reset

/-- After reset, a command word presented. -/
def Test.given (cw : CommandWord) : State := State.reset.presentCommand cw

/-- Channel `c` held by hand: the state a SELECT leaves. -/
def Test.held (c : Byte) : State :=
  { State.reset with en := true, selLines := pat c, opl := 0x04#8, ch := c }

/-- `WRITE 1, 00001F, 55` or the READ of that address in the middle of phase `p`, nothing received. -/
def Test.mid (p : Phase) (op : Byte) : State :=
  { State.reset with
    en := true, selLines := pat 1, ph := p, opl := op, ch := 1, addr := 0x00001F#24, wd := 0x55#8 }

/-- The same in phase 7, four bytes of the frame received. -/
def Test.lastByte (op : Byte) : State :=
  { Test.mid .dat op with fr := noFrames.set 1 [op, 0x00#8, 0x00#8, 0x1F#8] }

/-- Abort high at the next step. -/
def Test.abortNow : EnvIn := ⟨true, false, false⟩

/-- Reset high at the next step. -/
def Test.resetNow : EnvIn := ⟨false, true, false⟩

/-- A bus fault in the next step. -/
def Test.faultNow : EnvIn := ⟨false, false, true⟩

/-- Devices of 32 bytes on every channel. -/
def Test.small : State := { State.reset with cfg := { Config.default with cap := Vector.replicate 8 32 } }

/-- After reset, an abort in the third step and a reset in the fourth. -/
def Test.disturbed : State :=
  { State.reset with env := [EnvIn.quiet, EnvIn.quiet, Test.abortNow, Test.resetNow] }

/-- After reset, a bus fault in each of nine steps. -/
def Test.faulty : State := { State.reset with env := List.replicate 9 Test.faultNow }

/-! ## Well-formedness: each check refuses an ill-formed term -/

theorem test_wf_refuses_wide_write : (Instr.write 1 (2 ^ 24) 0).wf Config.default = false := by decide
theorem test_wf_refuses_wide_read : (Instr.read 1 (2 ^ 24) 0).wf Config.default = false := by decide
theorem test_wf_refuses_wrong_dummy : (Instr.readFrame 0x1F 0x01).wf Config.default = false := by decide
theorem test_wf_accepts_largest_address : (Instr.write 3 0xFFFFFF 0xFF).wf Config.default = true := by decide
theorem test_not_canonical : (Instr.read 2 0x010203 0xFF).canonical = false := by decide
theorem test_wide_address_has_no_word : encode (.write 1 0x1000000 0) = none := by decide

/-! ## Decoding: words written bit by bit (R81, R89, R90, R94; 95_test_vectors.md 2.1, 2.2) -/

-- OP 00000000, CH 00001001, ADDR 0, DATA 0: IDLE, CH ignored
theorem test_decode_idle :
    decodeTableWord 48 0b000000000000100100000000000000000000000000000000 = some (.idle 9 0 0) := by decide
-- OP 00000010, CH 00000010, ADDR 00000001 00000010 00000011, DATA 10101010
theorem test_decode_write :
    decodeTableWord 48 0b000000100000001000000001000000100000001110101010 =
      some (.write 2 0x010203 0xAA) := by decide
-- OP 00000011, CH 00000010, ADDR 00000001 00000010 00000011, DATA 11111111 ignored
theorem test_decode_read :
    decodeTableWord 48 0b000000110000001000000001000000100000001111111111 =
      some (.read 2 0x010203 0xFF) := by decide
-- OP 00000100, CH 00000011
theorem test_decode_select :
    decodeTableWord 48 0b000001000000001100000000000000000000000000000000 = some (.select 3 0 0) := by decide
-- OP 00000001
theorem test_decode_reserved01 :
    decodeTableWord 48 0b000000010000000000000000000000000000000000000000 = some (.reserved01 0 0 0) := by decide
-- OP 00000101, CH 00001001
theorem test_decode_reserved05 :
    decodeTableWord 48 0b000001010000100100000000000000000000000000000000 = some (.reserved05 9 0 0) := by decide
-- B0 00000010, address 00010010 00110100 01010110, data 00000010
theorem test_decode_writeFrame :
    decodeTableWord 40 0b0000001000010010001101000101011000000010 = some (.writeFrame 0x123456 0x02) := by decide
-- B0 00000011, address 10000000 00000000 00000000, dummy 00000000
theorem test_decode_readFrame :
    decodeTableWord 40 0b0000001110000000000000000000000000000000 = some (.readFrame 0x800000 0) := by decide
-- OP 00000110: reserved without a row; B0 00000101: not an opcode of this design
theorem test_decode_reserved_op : decodeCommand 0x060000000000#48 = .error (.reservedOp 6) := by decide
theorem test_decode_unknown_opcode : decodeFrame 0x0500000000#40 = .error (.unknownOpcode 5) := by decide
theorem test_decode_bytes :
    decodeBytes [0x02, 0x02, 0x01, 0x02, 0x03, 0xAA] = .ok (.write 2 0x010203 0xAA) ∧
    decodeBytes [0x03, 0x00, 0x00, 0x1F, 0x00] = .ok (.readFrame 0x1F 0) ∧
    decodeBytes [0x02] = .error (.badLength 1) := by decide
theorem test_encode_write : encode (.write 1 0x1F 0xAA) = some (.command 0x020100001FAA#48) := by decide
theorem test_wire_frame :
    wireFrame Config.default (.read 1 0x1F 0xFF) = some 0x0300001F00#40 := by decide
theorem test_pseudo : (Pseudo.writeK 3 0x1F 0xAA).expand = .write 3 0x1F 0xAA := by decide
theorem test_written : (Instr.write 2 0x010203 0xAA).written = some "WRITE 2, 010203, AA" := by decide
theorem test_response_word : responseWord 0x00 0xAA = 0x00AA#16 := by decide

/-! ## Single steps (95_test_vectors.md sections 2.5 to 2.9) -/

-- V-S1, V-S7
theorem test_select : (Test.after (step (Test.given 0x040200000000#48))).sel = some 2 := by decide
theorem test_select_invalid_channel :
    (Test.after (step (Test.given 0x040400000000#48))).trace =
      [.cmd 0x040400000000#48, .rsp 1 (Config.freeByte 0)] := by rfl
-- V-F9, V-S11
theorem test_idle_releases : (Test.after (exec (.idle 0 0 0) (Test.held 1))).en = false := by decide
theorem test_idle_ignores_channel :
    (Test.after (step (Test.given 0x000900000000#48))).trace =
      [.cmd 0x000900000000#48, .lwEn false, .rsp 0 (Config.freeByte 0)] := by rfl
-- V-W1: the memory and the order of the bytes; V-W7
theorem test_write :
    (Test.after (step (Test.given 0x0202010203AA#48))).mem = [(2 * 2 ^ 24 + 0x010203, 0xAA#8)] ∧
    (Test.after (step (Test.given 0x0202010203AA#48))).trace.drop 3 =
      [.xf 0x02 (Config.freeByte 0), .xf 0x01 (Config.freeByte 1), .xf 0x02 (Config.freeByte 2),
        .xf 0x03 (Config.freeByte 3), .xf 0xAA (Config.freeByte 4), .lwEn false,
        .rsp 0 (Config.freeByte 5)] := by
  constructor <;> rfl
theorem test_write_conflict :
    (Test.after (exec (.write 2 0x10 0x77) (Test.held 1))).trace = [.rsp 4 (Config.freeByte 0)] := by rfl
-- V-R3: the stored byte is returned; V-R2: the DATA field is not sent
theorem test_read :
    (Test.after (exec (.read 1 5 0) { State.reset with mem := [(2 ^ 24 + 5, 0x33#8)] })).trace.getLast? =
      some (.rsp 0 0x33) := by decide
theorem test_read_sends_dummy :
    (Test.after (exec (.read 2 0x010203 0xFF) State.reset)).trace.drop 6 =
      [.xf 0x00 (Config.initialByte 2 0x010203), .lwEn false, .rsp 0 (Config.initialByte 2 0x010203)] := by
  rfl
-- V-F1, V-F5, V-F4
theorem test_reserved01 :
    (Test.after (exec (.reserved01 0 0 0) State.reset)).trace = [.rsp 3 (Config.freeByte 0)] := by rfl
theorem test_reserved05_outranks_channel :
    (Test.after (exec (.reserved05 9 0 0) State.reset)).trace = [.rsp 3 (Config.freeByte 0)] := by rfl
theorem test_reserved_word :
    (Test.after (step (Test.given 0xFF0000000000#48))).trace =
      [.cmd 0xFF0000000000#48, .rsp 3 (Config.freeByte 0)] := by rfl
-- the frame of 2.2 as the device's instruction, and through the step
theorem test_writeFrame :
    (Test.after (step (State.reset.withFetchWord 40 0x0212345602))).mem = [(0x123456, 0x02#8)] := by decide
theorem test_readFrame :
    (Test.after (exec (.readFrame 5 0xEE) { Test.held 1 with mem := [(2 ^ 24 + 5, 0x33#8)] })).rx = 0x33 := by
  decide
-- V-A1, V-A4
theorem test_abort_before_enable :
    (Test.after (exec (.write 1 0x1F 0x55) { State.reset with env := [Test.abortNow] })).trace =
      [.abt, .lwEn false, .rsp 5 (Config.freeByte 1)] := by rfl
theorem test_abort_leaves_byte_open :
    (Test.after (exec (.write 1 0x1F 0x55)
      { State.reset with env := [EnvIn.quiet, EnvIn.quiet, EnvIn.quiet, Test.abortNow] })).mem =
      [(2 ^ 24 + 0x1F, Config.freeByte 1)] := by rfl
-- V-X2
theorem test_reset_in_mid_write :
    (Test.after (step { Test.mid .a1 0x02#8 with env := [Test.resetNow] })).trace = [.rst] := by rfl

/-! ## Fetching: each row of the table runs as the first step after reset -/

theorem test_fetch_idle :
    step (State.reset.withFetchWord 48 0) =
      exec (.idle 0 0 0) ((Test.given 0).envNext.takeWord 0 []) := by rfl
theorem test_fetch_frame :
    ∃ u, exec (.writeFrame 0 0) (State.reset.presentFrame 0x0200000000#40).envNext = .next u ∧
      step (State.reset.withFetchWord 40 0x0200000000) = .next (u.goto .release) := ⟨_, rfl, rfl⟩

/-! ## Witnesses: states that meet the hypotheses of the statements -/

theorem witness_DecodeOfEncodeIsIdentity :
    (Instr.readFrame 0x1F 0).wf Config.default = true ∧ (Instr.read 3 0xFFFFFF 0).wf Config.default = true := by
  decide
theorem witness_EncodeOfDecodeIsIdentity :
    decode (.command 0x0202010203AA#48) = .ok (.write 2 0x010203 0xAA) := by decide
theorem witness_ReservedWordsAreRejectedByName :
    6 ≤ (cwOp 0x060000000000#48).toNat ∧ (cwOp 0x050000000000#48).toNat < 6 ∧
    frameOpc 0x0300000000#40 = Config.opcRead ∧ frameOpc 0x0100000000#40 ≠ Config.opcWrite := by decide
/-- Clause by clause, at rest: the first and the last command, each check that fails, no word. -/
theorem witness_PhaseTableRows_wait :
    (∀ cw ∈ [0x000900000000#48, 0x0403FFFFFFFF#48, 0x060000000000#48, 0x020400000000#48],
      (Test.given cw).ph = .wait ∧ (Test.given cw).envNow = EnvIn.quiet ∧ (Test.given cw).port = [cw]) := by
  exact fun _ _ => ⟨rfl, rfl, rfl⟩
theorem witness_PhaseTableRows_wait_clauses :
    cwOp 0x000900000000#48 = 0x00#8 ∧ cwOp 0x0403FFFFFFFF#48 = 0x04#8 ∧
    (cwCh 0x0403FFFFFFFF#48).toNat < State.reset.cfg.nCh ∧ State.reset.MaySelect (cwCh 0x0403FFFFFFFF#48) ∧
    cwOp 0x020400000000#48 = 0x02#8 ∧ State.reset.cfg.nCh ≤ (cwCh 0x020400000000#48).toNat ∧
    ¬((Test.held 1).presentCommand 0x0403FFFFFFFF#48).MaySelect (cwCh 0x0403FFFFFFFF#48) ∧
    State.reset.envNow = EnvIn.quiet ∧ State.reset.port = [] := by decide
theorem witness_PatternTableRows : (7#8).toNat < 8 := by decide
theorem witness_DecoderAssertsAtMostOneOutput :
    (Test.held 3).cs 3 = true ∧ State.reset.en = false := by decide
theorem witness_EnablePinFollowsPolarity :
    State.reset.cfg.enActiveHigh = true ∧
    ({ State.reset with cfg := { Config.default with enActiveHigh := false } } : State).cfg.enActiveHigh =
      false := by decide
theorem witness_EveryInstructionKeepsMemoryCanonical :
    State.reset.mem.wf ∧ ∃ t, exec (.write 1 0 1) State.reset = .next t := ⟨by decide, _, rfl⟩
theorem witness_SelectCompletes :
    State.reset.ph = .wait ∧ (3#8).toNat < State.reset.cfg.nCh ∧ State.reset.MaySelect 3 ∧
    State.reset.Undisturbed 3 ∧ (Test.held 3).MaySelect 3 := by decide
theorem witness_ReselectChangesNoLine :
    (Test.held 2).ph = .wait ∧ (2#8).toNat < (Test.held 2).cfg.nCh ∧ (Test.held 2).en = true ∧
    (Test.held 2).code.setWidth 8 = 2#8 ∧ (Test.held 2).Undisturbed 3 := by decide
theorem witness_IdleCompletes :
    ({ Test.held 1 with env := [Test.abortNow, Test.abortNow] } : State).ph = .wait ∧
    ({ Test.held 1 with env := [Test.abortNow, Test.abortNow] } : State).NoReset 2 := by decide
/-- The first channel and address, the last ones, and a channel held by hand; for WRITE and READ. -/
theorem witness_WriteCompletes_ReadCompletes :
    (State.reset.ph = .wait ∧ State.reset.cfg.nCh ≤ 8 ∧ (0#8).toNat < State.reset.cfg.nCh ∧
      (3#8).toNat < State.reset.cfg.nCh ∧ State.reset.MaySelect 3 ∧ State.reset.Undisturbed 9 ∧
      (0xFFFFFF#24).toNat < capOf State.reset.cfg (chanOf 3) ∧ State.reset.en = false) ∧
    (Test.held 1).ph = .wait ∧ (Test.held 1).MaySelect 1 ∧ (Test.held 1).fr = noFrames := by
  refine ⟨by decide, by decide, by decide, rfl⟩
theorem witness_CapacityIsNotChecked :
    Test.small.ph = .wait ∧ Test.small.cfg.nCh ≤ 8 ∧ (1#8).toNat < Test.small.cfg.nCh ∧
    Test.small.MaySelect 1 ∧ Test.small.Undisturbed 9 ∧
    capOf Test.small.cfg (chanOf 1) ≤ (32#24).toNat ∧ Test.small.en = false := by decide
theorem witness_ReservedOperationsAnswerIllegal : State.reset.ph = .wait := by decide
/-- Reserved words with a row (0x01, 0x05), the first without and the last. -/
theorem witness_ReservedWordAnswersIllegal :
    ∀ cw ∈ [0x010000000000#48, 0x050900000000#48, 0x060000000000#48, 0xFF0000000000#48],
      (Test.given cw).ph = .wait ∧ (Test.given cw).envNow.reset = false ∧ (Test.given cw).port = [cw] ∧
      cwOp cw ≠ 0x00#8 ∧ cwOp cw ≠ 0x02#8 ∧ cwOp cw ≠ 0x03#8 ∧ cwOp cw ≠ 0x04#8 := by
  intro cw h
  simp only [List.mem_cons, List.not_mem_nil, or_false] at h
  rcases h with rfl | rfl | rfl | rfl <;> decide
/-- Each clause at a boundary value: channels 4 and 255; channel 3 with address 2^24; channel 1 held. -/
theorem witness_BoundaryConditionsInOrder :
    State.reset.ph = .wait ∧ State.reset.cfg.nCh ≤ (4#8).toNat ∧ State.reset.cfg.nCh ≤ (255#8).toNat ∧
    (3#8).toNat < State.reset.cfg.nCh ∧ (Test.held 1).ph = .wait ∧ (Test.held 1).en = true ∧
    (Test.held 1).code.setWidth 8 ≠ 2#8 := by decide
theorem witness_BoundaryConditionsInOrder_address : 2 ^ 24 ≤ 0x1000000 ∧ 0xFFFFFF < 2 ^ 24 := by omega
theorem witness_WriteFrameCompletes_ReadFrameCompletes :
    (Test.held 1).device = some 1 ∧ (0xFFFFFF#24).toNat < capOf (Test.held 1).cfg 1 := by decide
theorem witness_FrameWithoutDeviceReachesNone :
    State.reset.sel = none ∧ (Test.held 7).sel = some 7 ∧ (Test.held 4).sel = some 4 ∧
    (Test.held 4).cfg.nCh ≤ (4#3).toNat := by decide
theorem witness_FrameBeyondCapacityIsTheDevices :
    ({ Test.held 1 with cfg := Test.small.cfg } : State).device = some 1 ∧
    capOf Test.small.cfg 1 ≤ (32#24).toNat := by decide
theorem witness_FiveTransfersRunTheFrame :
    (Test.held 1).device = some 1 ∧ (Test.held 1).frameOf 1 = [] ∧
    (0x1F#24).toNat < capOf (Test.held 1).cfg 1 := by decide
theorem witness_StepRunsTheCommandPresented :
    (Test.given 0x0202010203AA#48).ph = .wait ∧ (Test.given 0x0202010203AA#48).envNow.reset = false ∧
    (Test.given 0x0202010203AA#48).port = [0x0202010203AA#48] ∧
    decode (.command 0x0202010203AA#48) = .ok (.write 2 0x010203 0xAA) := by decide
theorem witness_StepRunsTheFrameReceived_write :
    (Test.lastByte 0x02#8).ph = .dat ∧ (Test.lastByte 0x02#8).envNow = EnvIn.quiet ∧
    (Test.lastByte 0x02#8).device = some 1 ∧ (Test.lastByte 0x02#8).frameOf 1 = [0x02, 0, 0, 0x1F] ∧
    decode (.frame (frameOfBytes 0x02 0 0 0x1F 0x55)) = .ok (.writeFrame 0x1F 0x55) := by decide
theorem witness_StepRunsTheFrameReceived_read :
    (Test.lastByte 0x03#8).ph = .dat ∧ (Test.lastByte 0x03#8).device = some 1 ∧
    (Test.lastByte 0x03#8).frameOf 1 = [0x03, 0, 0, 0x1F] ∧
    decode (.frame (frameOfBytes 0x03 0 0 0x1F 0x00)) = .ok (.readFrame 0x1F 0) := by decide
theorem witness_StepRunsTheFrameReceived_next :
    (∃ u, exec (.writeFrame 0x1F 0x55) (Test.lastByte 0x02#8).envNext = .next u) ∧
    ∃ u, exec (.readFrame 0x1F 0) (Test.lastByte 0x03#8).envNext = .next u := ⟨⟨_, rfl⟩, _, rfl⟩
theorem witness_StepWaitsWithoutCommand_RestChangesNoMemory :
    State.reset.ph = .wait ∧ State.reset.envNow.reset = false ∧ State.reset.port = [] ∧
    ∃ t, step State.reset = .next t := ⟨by decide, by decide, by decide, _, rfl⟩
theorem witness_PhaseTableRows :
    ∀ p ∈ [Phase.setSel, .enable, .opc, .a2, .a1, .a0, .dat, .release, .respond],
      ∀ op ∈ [0x02#8, 0x03#8, 0x04#8], (Test.mid p op).envNow = EnvIn.quiet ∧ (Test.mid p op).ph = p ∧
        (Test.mid p op).opl = op := by decide
theorem witness_PhaseOnlyMovesForward_BusyPortAcceptsNothing :
    (Test.mid .a2 0x02#8).ph ≠ .wait ∧ ∃ t, seqStep (Test.mid .a2 0x02#8) = .next t :=
  ⟨by decide, _, rfl⟩
/-- A SELECT cut short in its second step; a refused word while a channel is held; waiting. -/
theorem witness_AcceptedSelectKeepsItsChannel :
    (State.reset.ph = .wait ∧ (3#8).toNat < State.reset.cfg.nCh ∧ State.reset.MaySelect 3 ∧
      ({ State.reset with env := [EnvIn.quiet, Test.abortNow] } : State).NoReset 4) ∧
    ((Test.held 1).presentCommand 0x0402000000FF#48).ph = .wait ∧
    ((Test.held 1).presentCommand 0x0402000000FF#48).envNow.reset = false ∧
    boundaryStatus 0x04#8 2 0 ((Test.held 1).presentCommand 0x0402000000FF#48) ≠ statusOk ∧
    (Test.held 1).port = [] := by decide
/-- At the first and the last phase that looks at the request. -/
theorem witness_AbortIsTakenAtPhaseEntry :
    ∀ p ∈ [Phase.setSel, .dat], ({ Test.mid p 0x02#8 with env := [Test.abortNow] } : State).envNow = Test.abortNow ∧
      1 ≤ p.number.toNat ∧ p.number.toNat ≤ 7 := by decide
/-- A WRITE behind its enable phase, at the last address of a device and at the first beyond it, and a
byte that must stay in each case. -/
theorem witness_AbortIsTakenAtPhaseEntry_ResetFromAnyState_memory :
    (∀ p ∈ [Phase.opc, .dat], (Test.mid p 0x02#8).writeInProgress = true) ∧
    (Test.mid .opc 0x02#8).addr.toNat < capOf Test.small.cfg (chanOf (Test.mid .opc 0x02#8).ch) ∧
    ((1 : Chan), (0x1E : Addr)) ≠ (chanOf (Test.mid .opc 0x02#8).ch, (Test.mid .opc 0x02#8).addr) ∧
    capOf Test.small.cfg (chanOf 1) ≤ (0x20#24).toNat ∧ (2 : Chan) ≠ chanOf (Test.mid .opc 0x02#8).ch := by
  decide
/-- A reset in the middle of a frame makes the device forget the bytes it received (R68, R200). -/
theorem test_reset_forgets_frame :
    (Test.after (step { Test.lastByte 0x02#8 with env := [Test.resetNow] })).fr = noFrames := by decide
theorem witness_LateAbortIsDropped :
    State.reset.ph = .wait ∧ (Test.mid .release 0x02#8).ph = .release ∧
    (Test.mid .respond 0x02#8).ph = .respond := by decide
/-- At rest, and in a WRITE before and behind its enable phase. -/
theorem witness_ResetFromAnyState :
    ({ Test.held 3 with env := [Test.resetNow] } : State).envNow.reset = true ∧
    ({ Test.mid .a1 0x02#8 with env := [Test.resetNow] } : State).envNow.reset = true ∧
    (Test.mid .enable 0x02#8).ph.number.toNat < 3 ∧ (Test.mid .a1 0x03#8).opl ≠ 0x02#8 := by decide
theorem witness_EveryCommandEndsInPhaseZero_OneResponsePerCommand :
    (Instr.write 1 0x1F 0x55).isCommand = true ∧ State.reset.ph = .wait ∧ State.reset.NoReset 9 := by decide
/-- Admitted with an abort and with a reset in the frame; refused for each of the three reasons. -/
theorem witness_TransactionEndsIdle :
    (Test.disturbed.ph = .wait ∧ (3#8).toNat < Test.disturbed.cfg.nCh ∧ Test.disturbed.MaySelect 3) ∧
    State.reset.NoReset 9 ∧ 0xFFFFFF < 2 ^ 24 ∧ State.reset.cfg.nCh ≤ (4#8).toNat ∧ 2 ^ 24 ≤ 0x1000000 ∧
    ¬(Test.held 1).MaySelect 2 := ⟨by decide, by decide, by omega, by decide, by omega, by decide⟩
theorem witness_AbortedCommandEndsIdle :
    (Instr.select 3 0 0).isCommand = true ∧
    ∃ t, exec (.select 3 0 0) { State.reset with env := [EnvIn.quiet, Test.abortNow] } = .next t ∧
      t.trace = [] ++ [.lwSel (pat 3), .abt, .lwEn false, .rsp 5 (Config.freeByte 1)] := ⟨rfl, _, rfl, rfl⟩
theorem witness_BusFaultIsNotReported :
    (Test.faulty.ph = .wait ∧ (1#8).toNat < Test.faulty.cfg.nCh ∧ Test.faulty.MaySelect 1 ∧
      Test.faulty.NoReset 9 ∧ Test.faulty.NoAbort 9) ∧ 0x1F < 2 ^ 24 := ⟨by decide, by omega⟩

/-- The invariant in the states the next witnesses use. -/
theorem coherent_reset : Coherent State.reset :=
  ⟨by decide, by decide, by decide, by decide, fun _ => rfl, by decide, fun h => absurd h (by decide)⟩
theorem coherent_held : Coherent (Test.held 1) :=
  ⟨by decide, by decide, by decide, by decide, fun _ => rfl, by decide, fun _ => by decide⟩
theorem coherent_setSel : Coherent { Test.mid .setSel 0x02#8 with en := false, selLines := pat 2 } :=
  ⟨by decide, by decide, by decide, by decide, fun _ => rfl, by decide,
    .inl rfl, rfl, by decide, fun h => absurd h (by decide)⟩
theorem coherent_enable : Coherent { Test.mid .enable 0x02#8 with en := false } :=
  ⟨by decide, by decide, by decide, by decide, fun _ => rfl, by decide, .inl rfl, rfl, by decide, rfl⟩
theorem coherent_opc : Coherent (Test.mid .opc 0x02#8) :=
  ⟨by decide, by decide, by decide, by decide, fun _ => rfl, by decide, .inl rfl, rfl, by decide, rfl, rfl⟩

theorem coherent_release :
    Coherent { Test.held 1 with ph := .release, st := statusAborted } :=
  ⟨by decide, by decide, by decide, by decide, fun _ => rfl, by decide, .inr (.inr (.inr ⟨rfl, rfl⟩))⟩
theorem coherent_respond : Coherent { Test.held 1 with ph := .respond } :=
  ⟨by decide, by decide, by decide, by decide, fun _ => rfl, by decide, fun _ => by decide, fun _ _ => rfl⟩

theorem witness_StatusCodesAtThePort :
    Coherent (Test.given 0x050900000000#48) ∧ ∃ t, step (Test.given 0x050900000000#48) = .next t ∧
      t.trace = [] ++ [.cmd 0x050900000000#48, .rsp 3 (Config.freeByte 0)] :=
  ⟨⟨by decide, by decide, by decide, by decide, fun _ => rfl, by decide, fun h => absurd h (by decide)⟩,
    _, rfl, rfl⟩
theorem witness_StepKeepsInvariant :
    Coherent State.reset ∧ (∃ t, step State.reset = .next t) ∧ ∃ t, seqStep State.reset = .next t :=
  ⟨coherent_reset, ⟨_, rfl⟩, _, rfl⟩
theorem witness_SequencerStepKeepsInvariant :
    Coherent (Test.mid .opc 0x02#8) ∧ ∃ t, seqStep (Test.mid .opc 0x02#8) = .next t :=
  ⟨coherent_opc, _, rfl⟩
theorem witness_SelectLinesMoveOnlyWhileDisabled :
    ∃ t, seqStep { Test.mid .setSel 0x02#8 with en := false, selLines := pat 2 } = .next t ∧
      t.selLines ≠ pat 2 := ⟨_, rfl, by decide⟩
theorem witness_SelectLinesMoveOnlyWhileDisabled_reset :
    ∃ t, seqStep { Test.held 1 with env := [Test.resetNow] } = .next t ∧ t.selLines ≠ pat 1 :=
  ⟨_, rfl, by decide⟩
theorem witness_OutputsNeverSwitchDirectly :
    ∃ t, seqStep { Test.mid .enable 0x02#8 with en := false } = .next t ∧ t.sel = some 1 :=
  ⟨_, rfl, by decide⟩
theorem witness_TransfersOnlyWhileSelected :
    ∃ t, seqStep (Test.mid .opc 0x02#8) = .next t ∧ t.trace = [] ++ [.xf 0x02 (Config.freeByte 0)] :=
  ⟨_, rfl, rfl⟩
theorem witness_WriteThenReadReturnsByte :
    State.reset.ph = .wait ∧ State.reset.cfg.nCh ≤ 8 ∧ (2#8).toNat < State.reset.cfg.nCh ∧
    State.reset.MaySelect 2 ∧ State.reset.Undisturbed 18 ∧
    (0x010203#24).toNat < capOf State.reset.cfg (chanOf 2) ∧ State.reset.en = false := by decide
theorem witness_WriteLeavesOtherChannels :
    (∃ t, exec (.write 1 0x1F 0x55) (Test.held 1) = .next t) ∧ (0 : Chan) ≠ chanOf 1 :=
  ⟨⟨_, rfl⟩, by decide⟩
theorem witness_WriteChangesAtMostOneByte :
    (Test.held 1).FaultFree ∧ (0x1F#24).toNat < capOf (Test.held 1).cfg (chanOf 1) ∧
    ((1 : Chan), (0x20 : Addr)) ≠ (chanOf 1, 0x1F) := by decide
theorem witness_ReadChangesNoMemory :
    (Test.held 1).FaultFree ∧ ∃ t, exec (.read 1 0x1F 0) (Test.held 1) = .next t := ⟨by decide, _, rfl⟩
theorem witness_ControlCommandsTouchNoMemory :
    State.reset.ph = .wait ∧ ∃ t, exec (.select 1 0 0) State.reset = .next t := ⟨by decide, _, rfl⟩
theorem witness_ParametersNeverChange :
    (∃ t, step State.reset = .next t) ∧ ∃ t, seqStep State.reset = .next t := ⟨⟨_, rfl⟩, _, rfl⟩

end Sys2Proof.Machine
end

section
/-!
Proofs of the family 20_memory.md. A WRITE or READ that nothing disturbs is cut where its phases
change character: the selection (phases 1 and 2), the opcode and address bytes (3 to 6), the fifth
byte (7), the release and the response (8 and 9). Each part is one lemma about a run of phases; the
two whole commands are put together from them, and the round trip from the two commands.
-/

namespace Sys2Proof.Machine

/-! ### Memory -/

/-- The byte stored is read back (R58, R59). -/
theorem Memory.write_read_same (m : Memory) (k : Chan) (a : Addr) (v : Byte) :
    (m.write k a v).read k a = v := by
  rw [Memory.read, Memory.write, Memory.get?_set, if_pos rfl, Option.getD_some]

/-! ### Inputs -/

/-- Undisturbed for `m + n` steps, the machine is undisturbed for the last `n` of them. -/
theorem State.Undisturbed.drop {s t : State} {n : Nat} (m : Nat) (h : s.Undisturbed (m + n))
    (ht : t.env = s.env.drop m) : t.Undisturbed n := by
  intro e he
  rw [ht, List.take_drop] at he
  exact h e (List.mem_of_mem_drop he)

/-- Undisturbed for some steps, the machine is undisturbed for fewer. -/
theorem State.Undisturbed.mono {s : State} {m n : Nat} (h : s.Undisturbed n) (hmn : m ≤ n) :
    s.Undisturbed m :=
  fun e he => h e (List.take_subset_take_left s.env hmn he)

/-! ### Transfers at the device -/

/-- The device on the asserted output, where there is one (R69, R70). -/
theorem device_of_asserted {s : State} {ch : Byte} (he : s.en = true) (hp : s.selLines = pat ch)
    (h8 : s.cfg.nCh ≤ 8) (hch : ch.toNat < s.cfg.nCh) : s.device = some (chanOf ch) := by
  have hk : (chanOf ch).toNat < s.cfg.nCh := by rwa [chanOf_toNat (by omega)]
  simp [State.device, State.sel, he, hp, hk]

/-- One of the first four bytes of a frame is received and answered by a free byte (R68). -/
theorem xfer_early {s : State} {k : Chan} (hd : s.device = some k) (hl : (s.frameOf k).length ≤ 3)
    (tx : Byte) : s.xfer false tx = s.exchange tx (earlyReply k tx s) := by
  have hr : deviceReply tx k s = earlyReply k tx s := by
    unfold deviceReply
    split
    case h_5 hf => simp [hf] at hl
    case h_6 hf => simp [hf] at hl; omega
    all_goals rfl
  simp [State.xfer, busReply, hd, hr]

/-- Opcode, address bytes and last byte, in the order they are sent, are the frame (R81, R83). -/
theorem frameOfBytes_eq_frameWord (opc last : Byte) (a : Addr) :
    frameOfBytes opc (addrByte2 a) (addrByte1 a) (addrByte0 a) last = frameWord opc a last := by
  unfold frameOfBytes frameWord addrByte2 addrByte1 addrByte0
  ext i hi
  simp only [BitVec.getElem_append, BitVec.getElem_extractLsb']
  grind

@[simp] theorem frameOpc_frameWord (opc last : Byte) (a : Addr) :
    frameOpc (frameWord opc a last) = opc := by
  unfold frameOpc frameWord
  ext i hi
  simp only [BitVec.getElem_extractLsb', BitVec.getLsbD_append]
  grind

@[simp] theorem frameAddr_frameWord (opc last : Byte) (a : Addr) :
    frameAddr (frameWord opc a last) = a := by
  unfold frameAddr frameWord
  ext i hi
  simp only [BitVec.getElem_extractLsb', BitVec.getLsbD_append]
  grind

@[simp] theorem frameLast_frameWord (opc last : Byte) (a : Addr) :
    frameLast (frameWord opc a last) = last := by
  unfold frameLast frameWord
  ext i hi
  simp only [BitVec.getElem_extractLsb', BitVec.getLsbD_append]
  grind

/-- A device that has received the opcode and address of a write frame executes it at the fifth byte
(R68). -/
theorem xfer_writeFrame {s : State} {k : Chan} {a : Addr} (hd : s.device = some k)
    (hf : s.frameOf k = [Config.opcWrite, addrByte2 a, addrByte1 a, addrByte0 a]) (tx : Byte) :
    s.xfer false tx = s.exchange tx (storeReply a tx k s) := by
  simp [State.xfer, busReply, hd, deviceReply, hf, frameReply, frameOfBytes_eq_frameWord, decodeFrame]

/-- A device that has received the opcode and address of a read frame executes it at the fifth byte
(R68). -/
theorem xfer_readFrame {s : State} {k : Chan} {a : Addr} (hd : s.device = some k)
    (hf : s.frameOf k = [Config.opcRead, addrByte2 a, addrByte1 a, addrByte0 a]) (tx : Byte) :
    s.xfer false tx = s.exchange tx (loadReply a tx k s) := by
  have ho : Config.opcRead ≠ Config.opcWrite := by decide
  simp [ho, State.xfer, busReply, hd, deviceReply, hf, frameReply, frameOfBytes_eq_frameWord, decodeFrame]

/-! ### Runs of phases -/

/-- Phases 1 and 2 of a command that selects: the select lines, then the enable line (R111). -/
def State.selected (s : State) (p : Phase) : State :=
  { s with
    en := true
    selLines := pat s.ch
    ph := p
    fr := noFrames
    env := s.env.drop 2
    trace := s.trace ++ [.lwSel (pat s.ch), .lwEn true] }

/-- The selection of a channel when no other is asserted and no device has received a byte that it
would remember. -/
theorem runPhases_selection {s : State} {p : Phase} (hph : s.ph = .setSel) (hm : s.MaySelect s.ch)
    (hfr : s.en = true → s.fr = noFrames) (hp : afterEnable s.opl = some p) (hu : s.Undisturbed 2)
    (n : Nat) : runPhases (n + 2) s = runPhases n (s.selected p) := by
  have hsel : s.envNext.phaseAction false =
      .next ((s.envNext.lineWriteSel (pat s.ch)).goto .enable) := phaseAction_setSel hph
  have hu1 : ∀ e ∈ s.env.tail.take 1, e = EnvIn.quiet := env_next hu
  rw [runPhases_quiet (by rw [hph]; decide) hu hsel,
    runPhases_quiet (s := (s.envNext.lineWriteSel (pat s.ch)).goto .enable) (by simp) hu1
      (phaseAction_enable rfl hp)]
  have hsame : forgetFrames (decoder s.en s.selLines) (decoder s.en (pat s.ch)) s.fr = s.fr :=
    forgetFrames_selection hm
  have hempty : forgetFrames (decoder s.en (pat s.ch)) (some (chanOf s.ch)) s.fr = noFrames := by
    cases he : s.en with
    | false => exact forgetFrames_change (by simp) _
    | true => rw [hfr he, forgetFrames_noFrames]
  simp [State.selected, State.goto, State.lineWriteSel, State.lineWriteEn, State.emit,
    State.driveLines, State.envNext, State.sel, hsame, hempty, ← List.drop_one]

/-- Device `k` has received one of the first four bytes of a frame and answered a free byte (R68); the
sequencer moves to phase `p`. -/
def State.byteSent (s : State) (k : Chan) (tx : Byte) (p : Phase) : State :=
  { s with
    ph := p
    rx := Config.freeByte s.draws
    fr := s.received k tx
    env := s.env.tail
    draws := s.draws + 1
    trace := s.trace ++ [.xf tx (Config.freeByte s.draws)] }

@[simp] theorem State.byteSent_ph (s : State) (k : Chan) (tx : Byte) (p : Phase) :
    (s.byteSent k tx p).ph = p := rfl

@[simp] theorem State.byteSent_device (s : State) (k : Chan) (tx : Byte) (p : Phase) :
    (s.byteSent k tx p).device = s.device := rfl

@[simp] theorem State.byteSent_frameOf (s : State) (k : Chan) (tx : Byte) (p : Phase) :
    (s.byteSent k tx p).frameOf k = s.frameOf k ++ [tx] := by
  simp [State.frameOf, State.byteSent, State.received]

/-- One of the phases 3 to 6, on a device that has received fewer than four bytes. -/
theorem runPhases_byteSent {s : State} (k : Chan) {tx : Byte} {p : Phase} {n : Nat}
    (hph : s.ph ≠ .wait) (hu : ∀ e ∈ s.env.take (n + 1), e = EnvIn.quiet)
    (ht : s.envNext.phaseAction false = .next ((s.envNext.xfer false tx).goto p))
    (hd : s.device = some k) (hl : (s.frameOf k).length ≤ 3) {m : Nat} :
    runPhases (m + 1) s = runPhases m (s.byteSent k tx p) := by
  rw [runPhases_quiet hph hu ht, xfer_early (s := s.envNext) hd hl]
  rfl

/-- Phases 3 to 6: the opcode and the three address bytes are received by device `k` (R68, R151). -/
def State.headerSent (s : State) (k : Chan) : State :=
  { s with
    ph := .dat
    rx := Config.freeByte (s.draws + 3)
    fr := s.fr.set k.toNat [s.opl, addrByte2 s.addr, addrByte1 s.addr, addrByte0 s.addr] k.isLt
    env := s.env.drop 4
    draws := s.draws + 4
    trace := s.trace ++
      [.xf s.opl (Config.freeByte s.draws), .xf (addrByte2 s.addr) (Config.freeByte (s.draws + 1)),
        .xf (addrByte1 s.addr) (Config.freeByte (s.draws + 2)),
        .xf (addrByte0 s.addr) (Config.freeByte (s.draws + 3))] }

/-- The opcode and the address of a frame reach the device asserted, one phase each. -/
theorem runPhases_header {s : State} {k : Chan} (hph : s.ph = .opc) (hd : s.device = some k)
    (hf : s.frameOf k = []) (hu : s.Undisturbed 4) (n : Nat) :
    runPhases (n + 4) s = runPhases n (s.headerSent k) := by
  have hu1 : ∀ e ∈ s.env.tail.take 3, e = EnvIn.quiet := env_next hu
  have hu2 : ∀ e ∈ s.env.tail.tail.take 2, e = EnvIn.quiet := env_next hu1
  have hu3 : ∀ e ∈ s.env.tail.tail.tail.take 1, e = EnvIn.quiet := env_next hu2
  refine Eq.trans (runPhases_byteSent k (by simp [hph]) hu (phaseAction_opc hph) hd (by simp [hf])) ?_
  refine Eq.trans (runPhases_byteSent k (by simp) hu1 (phaseAction_a2 rfl) (by simp [hd]) (by simp [hf])) ?_
  refine Eq.trans (runPhases_byteSent k (by simp) hu2 (phaseAction_a1 rfl) (by simp [hd]) (by simp [hf])) ?_
  refine Eq.trans (runPhases_byteSent k (by simp) hu3 (phaseAction_a0 rfl) (by simp [hd]) (by simp [hf])) ?_
  have hfr : s.fr[k.toNat]'k.isLt = [] := hf
  simp [State.byteSent, State.received, State.frameOf, State.headerSent, hfr, ← List.drop_one,
    Nat.add_assoc]

/-- Phase 8: the enable line falls, and every device forgets what it has received (R68, R117). -/
def State.released (s : State) : State :=
  { s with
    en := false
    ph := .respond
    fr := noFrames
    env := s.env.tail
    trace := s.trace ++ [.lwEn false] }

/-- Phases 8 and 9 with an output asserted: the release and the response. -/
theorem runPhases_release {s : State} (hph : s.ph = .release) (hen : s.en = true)
    (hu : s.Undisturbed 2) :
    runPhases 2 s = .next s.released.envNext.respondLatched.endCommand := by
  have hrel : s.envNext.phaseAction false = .next s.released := by
    rw [phaseAction_release (s := s.envNext) hph]
    simp [State.released, State.goto, State.lineWriteEn, State.emit, State.driveLines, State.envNext,
      State.sel, hen, forgetFrames_change]
  have hu1 : ∀ e ∈ s.env.tail.take 1, e = EnvIn.quiet := env_next hu
  rw [runPhases_quiet (by simp [hph]) hu hrel,
    runPhases_quiet (s := s.released) (by simp [State.released]) hu1 (phaseAction_respond rfl),
    runPhases_wait (by simp)]

/-- The fifth transfer of a frame, the release and the response: phases 7 to 9. -/
theorem runPhases_lastByte {s t : State} (hph : s.ph = .dat) (hact : s.envNext.phaseAction false = .next t)
    (ht : t.ph = .release) (hen : t.en = true) (henv : t.env = s.env.tail) (hu : s.Undisturbed 3) :
    runPhases 3 s = .next t.released.envNext.respondLatched.endCommand := by
  have hu1 : t.Undisturbed 2 := State.Undisturbed.drop 1 hu (by rw [henv, List.drop_one])
  rw [runPhases_quiet (by simp [hph]) hu hact, runPhases_release ht hen hu1]

/-- Phases 7 to 9 of a WRITE in capacity: the device stores the byte (R58, R131). -/
theorem runPhases_store {s : State} {k : Chan} (hph : s.ph = .dat) (ho : s.opl = 0x02#8)
    (hen : s.en = true) (hd : s.device = some k)
    (hf : s.frameOf k = [0x02#8, addrByte2 s.addr, addrByte1 s.addr, addrByte0 s.addr])
    (hcap : s.addr.toNat < capOf s.cfg k) (hu : s.Undisturbed 3) :
    runPhases 3 s = .next
      { s with
        en := false
        ph := .wait
        mem := s.mem.write k s.addr s.wd
        fr := noFrames
        rx := Config.freeByte s.draws
        env := s.env.drop 3
        draws := s.draws + 2
        trace := s.trace ++
          [.xf s.wd (Config.freeByte s.draws), .lwEn false,
            .rsp s.st (Config.freeByte (s.draws + 1))] } := by
  have hact := phaseAction_dat_write (s := s.envNext) (b := false) hph ho
  rw [xfer_writeFrame (s := s.envNext) hd hf] at hact
  rw [runPhases_lastByte hph hact rfl hen rfl hu]
  simp [State.released, State.respondLatched, State.respondFree, State.endCommand, State.goto,
    State.exchange, storeReply, inCapacity, State.envNext, ho, hcap, ← List.drop_one]

/-- Phases 7 to 9 of a READ in capacity: the device answers the byte stored, and the response carries
it (R59, R132, R157). -/
theorem runPhases_load {s : State} {k : Chan} (hph : s.ph = .dat) (ho : s.opl = 0x03#8)
    (hst : s.st = statusOk) (hen : s.en = true) (hd : s.device = some k)
    (hf : s.frameOf k = [0x03#8, addrByte2 s.addr, addrByte1 s.addr, addrByte0 s.addr])
    (hcap : s.addr.toNat < capOf s.cfg k) (hu : s.Undisturbed 3) :
    runPhases 3 s = .next
      { s with
        en := false
        ph := .wait
        rd := s.dev k s.addr
        fr := noFrames
        rx := s.dev k s.addr
        env := s.env.drop 3
        trace := s.trace ++
          [.xf s.cfg.dummyByte (s.dev k s.addr), .lwEn false, .rsp statusOk (s.dev k s.addr)] } := by
  have hact := phaseAction_dat_read (s := s.envNext) (b := false) hph ho
  rw [xfer_readFrame (s := s.envNext) hd hf] at hact
  rw [runPhases_lastByte hph hact rfl hen rfl hu]
  simp [State.released, State.respondLatched, State.emit, State.endCommand, State.exchange, loadReply,
    inCapacity, State.envNext, State.dev, ho, hst, hcap, ← List.drop_one]

/-! ### Whole commands -/

/-- The state in phase 7, once `op` with these operands has been admitted in `s` and the first four bytes
of its frame have been sent. -/
def State.beforeLastByte (s : State) (op ch : Byte) (addr : Addr) (data : Byte) : State :=
  ((s.accept op ch addr.toNat data).selected .opc).headerSent (chanOf ch)

/-- What an undisturbed WRITE or READ of a valid channel does up to its fifth byte (R131, R132, R133). -/
theorem runCommand_transaction {s : State} {op ch : Byte} {addr : Addr} {data : Byte}
    (ho : op = 0x02#8 ∨ op = 0x03#8) (hph : s.ph = .wait) (h8 : s.cfg.nCh ≤ 8)
    (hch : ch.toNat < s.cfg.nCh) (hm : s.MaySelect ch) (hu : s.Undisturbed 9)
    (hfr : s.en = true → s.fr = noFrames) :
    runCommand op ch addr.toNat data s = runPhases 3 (s.beforeLastByte op ch addr data) := by
  have hop : op ≠ 0x00#8 := by rcases ho with rfl | rfl <;> decide
  have hnext : afterEnable op = some .opc := by rcases ho with rfl | rfl <;> rfl
  rw [runCommand_admitted hph (boundaryStatus_transaction ho hch addr.isLt hm),
    runPhases_selection (s := s.accept op ch addr.toNat data) (by simp [hop]) hm hfr hnext
      (hu.mono (by decide)),
    runPhases_header (s := (s.accept op ch addr.toNat data).selected .opc) (k := chanOf ch) rfl
      (device_of_asserted rfl rfl h8 hch) (noFrames_get _)
      (State.Undisturbed.drop 2 (hu.mono (by decide)) rfl)]
  rfl

/-- The events of an undisturbed WRITE or READ before its response: `last` is the fifth byte sent, `rx`
what comes back for it (R131, R132). -/
def State.transactionEvents (s : State) (op ch : Byte) (addr : Addr) (last rx : Byte) : List Event :=
  [.lwSel (pat ch), .lwEn true, .xf op (Config.freeByte s.draws),
    .xf (addrByte2 addr) (Config.freeByte (s.draws + 1)),
    .xf (addrByte1 addr) (Config.freeByte (s.draws + 2)),
    .xf (addrByte0 addr) (Config.freeByte (s.draws + 3)), .xf last rx, .lwEn false]

/-- The state after an undisturbed WRITE in capacity (R131). -/
def State.afterWrite (s : State) (ch : Byte) (addr : Addr) (data : Byte) : State :=
  { s with
    en := false
    selLines := pat ch
    opl := 0x02#8
    ch := ch
    addr := addr
    wd := data
    st := 0
    mem := s.mem.write (chanOf ch) addr data
    fr := noFrames
    rx := Config.freeByte (s.draws + 4)
    env := s.env.drop 9
    draws := s.draws + 6
    trace := s.trace ++ s.transactionEvents 0x02#8 ch addr data (Config.freeByte (s.draws + 4)) ++
      [.rsp 0 (Config.freeByte (s.draws + 5))] }

/-- The state after an undisturbed READ in capacity (R132). -/
def State.afterRead (s : State) (ch : Byte) (addr : Addr) (data : Byte) : State :=
  { s with
    en := false
    selLines := pat ch
    opl := 0x03#8
    ch := ch
    addr := addr
    wd := data
    st := 0
    rd := s.dev (chanOf ch) addr
    fr := noFrames
    rx := s.dev (chanOf ch) addr
    env := s.env.drop 9
    draws := s.draws + 4
    trace := s.trace ++
      s.transactionEvents 0x03#8 ch addr s.cfg.dummyByte (s.dev (chanOf ch) addr) ++
      [.rsp 0 (s.dev (chanOf ch) addr)] }

section Transaction

variable {s : State} {ch : Byte} {addr : Addr} {data : Byte}

@[simp] theorem State.beforeLastByte_cfg (op : Byte) :
    (s.beforeLastByte op ch addr data).cfg = s.cfg := rfl

@[simp] theorem State.beforeLastByte_addr (op : Byte) :
    (s.beforeLastByte op ch addr data).addr = addr := by
  simp [State.beforeLastByte, State.headerSent, State.selected]

theorem State.beforeLastByte_device (op : Byte) (h8 : s.cfg.nCh ≤ 8) (hch : ch.toNat < s.cfg.nCh) :
    (s.beforeLastByte op ch addr data).device = some (chanOf ch) :=
  device_of_asserted rfl rfl h8 hch

theorem State.beforeLastByte_frameOf (op : Byte) :
    (s.beforeLastByte op ch addr data).frameOf (chanOf ch) =
      [op, addrByte2 addr, addrByte1 addr, addrByte0 addr] := by
  simp [State.beforeLastByte, State.headerSent, State.frameOf, State.selected]

theorem State.beforeLastByte_undisturbed (op : Byte) (hu : s.Undisturbed 9) :
    (s.beforeLastByte op ch addr data).Undisturbed 3 :=
  hu.drop 6 (by simp [State.beforeLastByte, State.headerSent, State.selected])

/-- An undisturbed WRITE in capacity ends in `State.afterWrite`, whatever the free values are (R131). -/
theorem execWrite_completes (hph : s.ph = .wait) (h8 : s.cfg.nCh ≤ 8) (hch : ch.toNat < s.cfg.nCh)
    (hm : s.MaySelect ch) (hu : s.Undisturbed 9) (hcap : addr.toNat < capOf s.cfg (chanOf ch))
    (hfr : s.en = true → s.fr = noFrames) :
    execWrite ch addr.toNat data s = .next (s.afterWrite ch addr data) := by
  rw [execWrite, runCommand_transaction (.inl rfl) hph h8 hch hm hu hfr,
    runPhases_store (s := s.beforeLastByte 0x02#8 ch addr data) rfl rfl rfl
      (State.beforeLastByte_device _ h8 hch) (by simp [State.beforeLastByte_frameOf]) (by simpa using hcap)
      (State.beforeLastByte_undisturbed _ hu)]
  simp [State.afterWrite, State.transactionEvents, State.beforeLastByte, State.headerSent, State.selected,
    statusOk, hph]

/-- An undisturbed READ in capacity ends in `State.afterRead`, whatever the free values are (R132). -/
theorem execRead_completes (hph : s.ph = .wait) (h8 : s.cfg.nCh ≤ 8) (hch : ch.toNat < s.cfg.nCh)
    (hm : s.MaySelect ch) (hu : s.Undisturbed 9) (hcap : addr.toNat < capOf s.cfg (chanOf ch))
    (hfr : s.en = true → s.fr = noFrames) :
    execRead ch addr.toNat data s = .next (s.afterRead ch addr data) := by
  rw [execRead, runCommand_transaction (.inr rfl) hph h8 hch hm hu hfr,
    runPhases_load (s := s.beforeLastByte 0x03#8 ch addr data) rfl rfl rfl rfl
      (State.beforeLastByte_device _ h8 hch) (by simp [State.beforeLastByte_frameOf]) (by simpa using hcap)
      (State.beforeLastByte_undisturbed _ hu)]
  simp [State.afterRead, State.transactionEvents, State.beforeLastByte, State.headerSent, State.selected,
    State.dev, statusOk, hph]

end Transaction

/-! ### The round trip -/

/-- Settles O52: a WRITE leaves the decoder idle and the byte in the device, so the READ that follows is
admitted and its response carries that byte (R60). -/
theorem writeThenReadReturnsByte : Obligations.WriteThenReadReturnsByte := by
  intro s ch addr data d hph h8 hch hm hu hcap hfr
  let t := s.afterWrite ch addr data
  have hstored : t.dev (chanOf ch) addr = data := Memory.write_read_same s.mem (chanOf ch) addr data
  have hidle : t.en ≠ true := Bool.false_ne_true
  have hwrite : exec (.write ch addr.toNat data) s = .next t :=
    execWrite_completes hph h8 hch hm (hu.mono (by decide)) hcap hfr
  have hread : exec (.read ch addr.toNat d) t = .next (t.afterRead ch addr d) :=
    execRead_completes hph h8 hch (absurd · hidle) (hu.drop 9 rfl) hcap (absurd · hidle)
  refine ⟨t, t.afterRead ch addr d, t.transactionEvents 0x03#8 ch addr t.cfg.dummyByte data,
    hwrite, hread, ?_, rfl⟩
  rw [State.afterRead, hstored]

end Sys2Proof.Machine
end

section
/-!
Proofs of the family 30_encoding.md. The bytes of an address, by value and as they stand in the wire
frame (R81, R83). A reserved command word: whatever row the decoder finds for it, the step runs its OP
through the boundary, which refuses it there (R94, R173).
-/

namespace Sys2Proof.Machine

/-! ### The bytes of an address -/

theorem addrByte2_toNat (a : Addr) : (addrByte2 a).toNat = a.toNat / 2 ^ 16 := by
  rw [addrByte2, BitVec.extractLsb'_toNat, Nat.shiftRight_eq_div_pow]
  omega

theorem addrByte1_toNat (a : Addr) : (addrByte1 a).toNat = a.toNat / 2 ^ 8 % 2 ^ 8 := by
  rw [addrByte1, BitVec.extractLsb'_toNat, Nat.shiftRight_eq_div_pow]

theorem addrByte0_toNat (a : Addr) : (addrByte0 a).toNat = a.toNat % 2 ^ 8 := by
  rw [addrByte0, BitVec.extractLsb'_toNat, Nat.shiftRight_zero]

/-- The three bytes, the most significant first, are the address (R83). -/
theorem addrBytes_append (a : Addr) : addrByte2 a ++ addrByte1 a ++ addrByte0 a = a := by
  unfold addrByte2 addrByte1 addrByte0
  ext i hi
  simp only [BitVec.getElem_append, BitVec.getElem_extractLsb']
  grind

/-! ### The bytes of a frame -/

/-- Five bytes put together as a frame are sent as those five bytes (R81). -/
theorem frameBytes_frameOfBytes (b0 b1 b2 b3 b4 : Byte) :
    frameBytes (frameOfBytes b0 b1 b2 b3 b4) = [b0, b1, b2, b3, b4] := by
  simp only [frameBytes, frameOfBytes, List.cons.injEq, and_true]
  refine ⟨?_, ?_, ?_, ?_, ?_⟩ <;>
    (ext i hi; simp only [BitVec.getElem_extractLsb', BitVec.getLsbD_append]; grind)

/-- A frame is sent as its opcode, the address with the most significant byte first, and its last byte
(R81, R83). -/
theorem frameBytes_frameWord (opc last : Byte) (a : Addr) :
    frameBytes (frameWord opc a last) = [opc, addrByte2 a, addrByte1 a, addrByte0 a, last] := by
  rw [← frameOfBytes_eq_frameWord, frameBytes_frameOfBytes]

theorem wireFrame_write (cfg : Config) (ch : Byte) (a : Addr) (d : Byte) :
    wireFrame cfg (.write ch a.toNat d) = some (frameWord Config.opcWrite a d) := by
  rw [wireFrame, if_pos a.isLt, BitVec.ofNat_toNat, BitVec.setWidth_eq]

theorem wireFrame_read (cfg : Config) (ch : Byte) (a : Addr) (d : Byte) :
    wireFrame cfg (.read ch a.toNat d) = some (frameWord Config.opcRead a cfg.dummyByte) := by
  rw [wireFrame, if_pos a.isLt, BitVec.ofNat_toNat, BitVec.setWidth_eq]

/-- Settles O5: the bytes are the base-256 digits of the address, and both frames are sent as their bytes
from the opcode on (R83). -/
theorem addressBytesAreBigEndian : Obligations.AddressBytesAreBigEndian :=
  ⟨fun a => ⟨addrByte2_toNat a, addrByte1_toNat a, addrByte0_toNat a, addrBytes_append a⟩,
    fun cfg ch a d =>
      ⟨⟨_, wireFrame_write cfg ch a d, frameBytes_frameWord Config.opcWrite d a⟩,
        ⟨_, wireFrame_read cfg ch a d, frameBytes_frameWord Config.opcRead cfg.dummyByte a⟩⟩⟩

/-! ### Reserved operations -/

/-- A reserved OP is refused before any other condition is looked at (R173, R178). -/
theorem boundaryStatus_reserved {op : Byte} (h : isCommandOp op = false) (ch : Byte) (addr : Nat) (s : State) :
    boundaryStatus op ch addr s = statusIllegalCommand :=
  if_pos h

/-- A command with a reserved OP is answered with status 3 and is over (R94, R173). -/
theorem runCommand_reserved {s : State} {op : Byte} (hw : s.ph = .wait) (h : isCommandOp op = false)
    (ch : Byte) (addr : Nat) (data : Byte) :
    runCommand op ch addr data s = .next (s.respondFree statusIllegalCommand) := by
  have hb := boundaryStatus_reserved h ch addr s
  rw [runCommand_refused hw (by rw [hb]; decide), hb]

/-- A command word presented in phase 0 without a reset is fetched (R152). -/
theorem fetch_presented {s : State} {cw : CommandWord} {rest : List CommandWord} (hw : s.ph = .wait)
    (hr : s.envNow.reset = false) (hp : s.port = cw :: rest) :
    s.fetch = some (cw, s.envNext.takeWord cw rest) := by
  rw [State.fetch, if_pos ⟨hw, hr⟩, hp]

/-- What the decoder makes of a reserved OP: one of the two named rows, or an error (R94). -/
theorem decodeCommand_reserved {cw : CommandWord} (h : isCommandOp (cwOp cw) = false) :
    (cwOp cw = 0x01#8 ∧ decodeCommand cw = .ok (.reserved01 (cwCh cw) (cwAddr cw) (cwData cw))) ∨
    (cwOp cw = 0x05#8 ∧ decodeCommand cw = .ok (.reserved05 (cwCh cw) (cwAddr cw) (cwData cw))) ∨
    decodeCommand cw = .error (.reservedOp (cwOp cw)) := by
  simp only [isCommandOp, Bool.or_eq_false_iff, decide_eq_false_iff_not] at h
  obtain ⟨⟨⟨h0, h2⟩, h3⟩, h4⟩ := h
  rw [decodeCommand, if_neg h0, if_neg h2, if_neg h3, if_neg h4]
  split
  next h1 => exact .inl ⟨h1, rfl⟩
  next =>
    split
    next h5 => exact .inr (.inl ⟨h5, rfl⟩)
    next => exact .inr (.inr rfl)

/-- A fetched word with a reserved OP is run with its own OP and fields, whether it has a row or not
(R94). -/
theorem step_reserved {s t : State} {cw : CommandWord} (hf : s.fetch = some (cw, t))
    (h : isCommandOp (cwOp cw) = false) :
    step s = runCommand (cwOp cw) (cwCh cw) (cwAddr cw).toNat (cwData cw) t := by
  unfold step
  rcases decodeCommand_reserved h with ⟨ho, hd⟩ | ⟨ho, hd⟩ | hd
  · simp only [hf, hd, ho]
    rfl
  · simp only [hf, hd, ho]
    rfl
  · simp only [hf, hd]
    rfl

/-- Settles O20: the word is taken, and its OP is refused at the boundary (R94). -/
theorem reservedWordAnswersIllegal : Obligations.ReservedWordAnswersIllegal := by
  intro s cw rest hw hr hp h0 h2 h3 h4
  have hop : isCommandOp (cwOp cw) = false := by simp [isCommandOp, h0, h2, h3, h4]
  let t := s.envNext.takeWord cw rest
  have hstep : step s = .next (t.respondFree statusIllegalCommand) := by
    rw [step_reserved (fetch_presented hw hr hp) hop, runCommand_reserved (s := t) hw hop]
  refine ⟨Config.freeByte s.draws, s.draws + 1, hstep.trans ?_⟩
  simp [t, State.respondFree, State.takeWord, State.envNext, statusIllegalCommand]

end Sys2Proof.Machine
end

section
/-!
Proofs of the family 40_decoder_control.md. The release step (R117). Of all that a sequencer step can be,
only a reset and phase 1 drive the select lines: a reset lowers the enable line in the same step, and
phase 1 with the enable line asserted repeats the levels the lines already have (R114, R116).
-/

namespace Sys2Proof.Machine

/-! ### The release step -/

/-- Settles O9: the decoder asserts nothing once the enable line is low (R117). -/
theorem releaseAssertsNothing : Obligations.ReleaseAssertsNothing := by
  intro s k
  have hsel : (s.lineWriteEn false).sel = none := decoder_false s.selLines
  exact ⟨hsel, by simp [State.cs, hsel]⟩

/-! ### What leaves the select lines alone -/

theorem boundary_selLines (s : State) (op ch : Byte) (addr : Nat) (data : Byte) :
    (s.boundary op ch addr data).selLines = s.selLines := by
  unfold State.boundary
  split
  · exact State.accept_selLines s op ch addr data
  · exact State.raiseAtBoundary_selLines s _

theorem acceptPhase_selLines (s : State) : s.acceptPhase.selLines = s.selLines := by
  unfold State.acceptPhase
  split
  · rfl
  · exact boundary_selLines (s.takeWord _ _) _ _ _ _

theorem dataPhase_selLines {s t : State} {b : Bool} (h : s.dataPhase b = some t) :
    t.selLines = s.selLines := by
  unfold State.dataPhase at h
  split at h
  · cases h; rfl
  · split at h
    · cases h; rfl
    · cases h

theorem respondLatched_selLines (s : State) : s.respondLatched.selLines = s.selLines := by
  unfold State.respondLatched
  split <;> rfl

/-- Phase 1 is the only row of the phase table that drives the select lines (R151). -/
theorem phaseAction_selLines {s t : State} {b : Bool} (hph : s.ph ≠ .setSel)
    (h : s.phaseAction b = .next t) : t.selLines = s.selLines := by
  cases hp : s.ph <;> simp only [State.phaseAction, hp] at h
  case wait => cases h; exact acceptPhase_selLines s
  case setSel => exact absurd hp hph
  case enable => split at h <;> cases h; rfl
  case dat =>
    split at h
    next hd => cases h; exact dataPhase_selLines hd
    next => cases h
  case respond => cases h; exact respondLatched_selLines s
  all_goals cases h; rfl

/-! ### Invariant I2 -/

/-- In phase 1 no other channel than the command's is asserted (R116). -/
theorem Coherent.maySelect {s : State} (h : Coherent s) (hph : s.ph = .setSel) : s.MaySelect s.ch := by
  have hinv := h.phase
  rw [State.phaseInv, hph] at hinv
  obtain ⟨-, -, -, hm⟩ := hinv
  exact hm

/-- Settles O49, by the kinds of sequencer step. -/
theorem selectLinesMoveOnlyWhileDisabled : Obligations.SelectLinesMoveOnlyWhileDisabled := by
  intro s t hcoh hstep hmoved
  rcases seqStep_cases s with ⟨hreset, hs⟩ | ⟨-, -, -, hs⟩ | ⟨-, hs⟩
  · cases hs.symm.trans hstep
    exact ⟨State.takeReset_en s.envNext, .inr hreset⟩
  · cases hs.symm.trans hstep
    exact absurd (State.takeAbort_selLines s.envNext) hmoved
  · rw [hs] at hstep
    by_cases hph : s.ph = .setSel
    · cases (phaseAction_setSel (s := s.envNext) hph).symm.trans hstep
      cases hen : s.en with
      | false => exact ⟨hen, .inl rfl⟩
      | true => exact absurd (pat_of_code (hcoh.maySelect hph hen)) hmoved
    · exact absurd (phaseAction_selLines (s := s.envNext) hph hstep) hmoved

end Sys2Proof.Machine
end

section
/-!
Proofs of the family 41_memory_transactions.md. From its admission to its release a WRITE or READ takes
one sequencer step after the other, each of them a reset or a move to a later phase: the phase's own
action, or an abort, which moves to the release at once. So the release is reached within the nine steps
of a command, and the response follows it (R142).
-/

namespace Sys2Proof.Machine

/-! ### The boundary -/

/-- WRITE and READ are one command with two opcodes (R133). -/
theorem exec_transaction {i : Instr} {ch : Byte} {addr : Nat} {data : Byte}
    (hi : i = .write ch addr data ∨ i = .read ch addr data) (s : State) :
    ∃ op, (op = 0x02#8 ∨ op = 0x03#8) ∧ exec i s = runCommand op ch addr data s := by
  rcases hi with rfl | rfl
  · exact ⟨0x02#8, .inl rfl, rfl⟩
  · exact ⟨0x03#8, .inr rfl, rfl⟩

/-- The three conditions a WRITE or READ can meet at the boundary (R178). -/
theorem boundaryStatus_transaction_refused {op ch : Byte} {addr : Nat} {s : State}
    (ho : op = 0x02#8 ∨ op = 0x03#8) (h : s.cfg.nCh ≤ ch.toNat ∨ 2 ^ 24 ≤ addr ∨ ¬s.MaySelect ch) :
    boundaryStatus op ch addr s ≠ statusOk := by
  have hc : isCommandOp op = true := by rcases ho with rfl | rfl <;> rfl
  have h0 : op ≠ 0x00#8 := by rcases ho with rfl | rfl <;> decide
  rw [boundaryStatus, if_neg (by simp [hc]), if_neg h0]
  split
  next => decide
  next hch =>
    split
    next => decide
    next haddr =>
      have hconflict : ¬s.MaySelect ch := (h.resolve_left hch).resolve_left fun ha => haddr ⟨ho, ha⟩
      rw [if_pos (by simpa [State.MaySelect] using hconflict)]
      decide

/-! ### One step towards the release -/

/-- One step of a running command, from `s` to `t`: one event, and a later phase that is not yet the
response. -/
structure State.Advances (s t : State) : Prop where
  opl : t.opl = s.opl
  env : t.env = s.env.tail
  emits : ∃ e, t.trace = s.trace ++ [e]
  later : s.ph.number.toNat < t.ph.number.toNat
  unanswered : t.ph.number.toNat ≤ 8

theorem State.Advances.of_phases {s t : State} {p : Phase} (q : Phase) (hp : s.ph = p) (hq : t.ph = q)
    (hpq : p.number.toNat < q.number.toNat ∧ q.number.toNat ≤ 8) (hopl : t.opl = s.opl)
    (henv : t.env = s.env.tail) (he : ∃ e, t.trace = s.trace ++ [e]) : s.Advances t := by
  subst hp hq
  exact ⟨hopl, henv, he, hpq.1, hpq.2⟩

/-- An abort moves to the release (R154). -/
theorem takeAbort_advances {s : State} (hph : s.ph.abortable = true) :
    s.Advances s.envNext.takeAbort := by
  have hlt : s.ph.number.toNat < 8 := Nat.lt_succ_of_le (of_decide_eq_true hph).2
  exact .of_phases .release rfl rfl ⟨hlt, le_refl 8⟩ rfl rfl ⟨_, rfl⟩

/-- Each of the phases 1 to 7 of a WRITE or READ moves to the next, whatever the bus does (R151). -/
theorem phaseAction_advances {s : State} {b : Bool} (ho : s.opl = 0x02#8 ∨ s.opl = 0x03#8)
    (hph : s.ph.abortable = true) : ∃ t, s.envNext.phaseAction b = .next t ∧ s.Advances t := by
  cases hp : s.ph with
  | wait | release | respond => rw [hp] at hph; exact absurd hph (by decide)
  | setSel =>
    exact ⟨_, phaseAction_setSel hp, .of_phases .enable hp rfl (by decide) rfl rfl ⟨_, rfl⟩⟩
  | enable =>
    have hnext : afterEnable s.opl = some .opc := by rcases ho with ho | ho <;> rw [ho] <;> rfl
    exact ⟨_, phaseAction_enable hp hnext, .of_phases .opc hp rfl (by decide) rfl rfl ⟨_, rfl⟩⟩
  | opc => exact ⟨_, phaseAction_opc hp, .of_phases .a2 hp rfl (by decide) rfl rfl ⟨_, rfl⟩⟩
  | a2 => exact ⟨_, phaseAction_a2 hp, .of_phases .a1 hp rfl (by decide) rfl rfl ⟨_, rfl⟩⟩
  | a1 => exact ⟨_, phaseAction_a1 hp, .of_phases .a0 hp rfl (by decide) rfl rfl ⟨_, rfl⟩⟩
  | a0 => exact ⟨_, phaseAction_a0 hp, .of_phases .dat hp rfl (by decide) rfl rfl ⟨_, rfl⟩⟩
  | dat =>
    rcases ho with ho | ho
    · exact ⟨_, phaseAction_dat_write hp ho,
        .of_phases .release hp rfl (by decide) rfl rfl ⟨_, rfl⟩⟩
    · exact ⟨_, phaseAction_dat_read hp ho,
        .of_phases .release hp rfl (by decide) rfl rfl ⟨_, rfl⟩⟩

/-- A step of a WRITE or READ before its release is a reset or leads on towards the release. -/
theorem seqStep_transaction {s : State} (ho : s.opl = 0x02#8 ∨ s.opl = 0x03#8)
    (hph : s.ph.abortable = true) :
    s.envNow.reset = true ∨ ∃ t, seqStep s = .next t ∧ s.Advances t := by
  rcases seqStep_cases s with ⟨hr, -⟩ | ⟨-, -, -, hs⟩ | ⟨-, hs⟩
  · exact .inl hr
  · exact .inr ⟨_, hs, takeAbort_advances hph⟩
  · rw [hs]
    exact .inr (phaseAction_advances ho hph)

/-! ### The end of a command -/

/-- From `s`, within `n` steps, the command ends with the enable line deasserted; if no reset comes, with
the release and the response as its last two events. -/
def State.EndsIdle (s : State) (n : Nat) : Prop :=
  ∃ t, runPhases n s = .next t ∧ t.en = false ∧
    (s.NoReset n → ∃ es st rd, t.trace = s.trace ++ es ++ [.lwEn false, .rsp st rd])

/-- A reset in the present step ends the command, with the enable line deasserted (R200). -/
theorem runPhases_reset {s : State} (hw : s.ph ≠ .wait) (hr : s.envNow.reset = true) (n : Nat) :
    runPhases (n + 1) s = .next s.envNext.takeReset := by
  rw [runPhases_step hw (seqStep_reset hr), runPhases_wait (State.takeReset_ph _)]

theorem State.NoReset.now {s : State} {n : Nat} (h : s.NoReset (n + 1)) : s.envNow.reset ≠ true := by
  rw [State.envNow, env_now (P := fun e => e.reset = false) rfl h]
  exact Bool.false_ne_true

theorem State.EndsIdle.of_reset {s : State} (hw : s.ph ≠ .wait) (hr : s.envNow.reset = true) (n : Nat) :
    s.EndsIdle (n + 1) :=
  ⟨_, runPhases_reset hw hr n, rfl, fun hn => absurd hr hn.now⟩

/-- The step before one from which the command ends idle. -/
theorem State.EndsIdle.of_step {s t : State} {n : Nat} (hw : s.ph ≠ .wait) (hs : seqStep s = .next t)
    (hadv : s.Advances t) (h : t.EndsIdle n) : s.EndsIdle (n + 1) := by
  obtain ⟨u, hrun, hen, htrace⟩ := h
  obtain ⟨e, he⟩ := hadv.emits
  refine ⟨u, (runPhases_step hw hs n).trans hrun, hen, fun hn => ?_⟩
  have hn' : t.NoReset n := by
    rw [State.NoReset, hadv.env]
    exact env_next hn
  obtain ⟨es, st, rd, hu⟩ := htrace hn'
  exact ⟨e :: es, st, rd, by simp [hu, he]⟩

/-- The response changes no line and emits one event (R157). -/
theorem respondLatched_emits (s : State) :
    s.respondLatched.en = s.en ∧ ∃ st rd, s.respondLatched.trace = s.trace ++ [.rsp st rd] := by
  unfold State.respondLatched
  split <;> exact ⟨rfl, _, _, rfl⟩

/-- Phase 9 with the enable line deasserted: the response, unless a reset comes. -/
theorem runPhases_respond {s : State} (hph : s.ph = .respond) (hen : s.en = false) (n : Nat) :
    ∃ t, runPhases (n + 1) s = .next t ∧ t.en = false ∧
      (s.NoReset (n + 1) → ∃ st rd, t.trace = s.trace ++ [.rsp st rd]) := by
  have hw : s.ph ≠ .wait := by simp [hph]
  rcases seqStep_cases s with ⟨hr, -⟩ | ⟨-, -, ha, -⟩ | ⟨-, hs⟩
  · exact ⟨_, runPhases_reset hw hr n, rfl, fun hn => absurd hr hn.now⟩
  · rw [hph] at ha
    exact absurd ha (by decide)
  · rw [phaseAction_respond (s := s.envNext) hph] at hs
    obtain ⟨hlines, hevent⟩ := respondLatched_emits s.envNext
    exact ⟨_, (runPhases_step hw hs n).trans (runPhases_wait rfl n), hlines.trans hen, fun _ => hevent⟩

/-- From phase 8 the release and the response are left to come (R151). -/
theorem endsIdle_release {s : State} (hph : s.ph = .release) (n : Nat) : s.EndsIdle (n + 2) := by
  have hw : s.ph ≠ .wait := by simp [hph]
  rcases seqStep_cases s with ⟨hr, -⟩ | ⟨-, -, ha, -⟩ | ⟨-, hs⟩
  · exact .of_reset hw hr (n + 1)
  · rw [hph] at ha
    exact absurd ha (by decide)
  · rw [phaseAction_release (s := s.envNext) hph] at hs
    obtain ⟨t, hrun, hen, htrace⟩ :=
      runPhases_respond (s := (s.envNext.lineWriteEn false).goto .respond) rfl rfl n
    refine ⟨t, (runPhases_step hw hs (n + 1)).trans hrun, hen, fun hn => ?_⟩
    obtain ⟨st, rd, ht⟩ := htrace (env_next hn)
    exact ⟨[], st, rd, by simp [ht]⟩

/-- A phase from 1 to 8 is one of those an abort can end, or the release. -/
theorem Phase.abortable_or_release {p : Phase} (h1 : 1 ≤ p.number.toNat) (h8 : p.number.toNat ≤ 8) :
    p.abortable = true ∨ p = .release := by
  cases p <;> revert h1 h8 <;> decide

/-- From every phase up to the release a WRITE or READ ends idle, if the steps left suffice for the phases
left: a phase passed in each. -/
theorem endsIdle_transaction {s : State} {n : Nat} (ho : s.opl = 0x02#8 ∨ s.opl = 0x03#8)
    (h1 : 1 ≤ s.ph.number.toNat) (h8 : s.ph.number.toNat ≤ 8) (hn : 10 ≤ n + s.ph.number.toNat) :
    s.EndsIdle n := by
  induction n generalizing s with
  | zero => omega
  | succ n ih =>
    have hw : s.ph ≠ .wait := fun h => by rw [h] at h1; exact absurd h1 (by decide)
    rcases Phase.abortable_or_release h1 h8 with hph | hph
    · rcases seqStep_transaction ho hph with hr | ⟨t, hs, hadv⟩
      · exact .of_reset hw hr n
      · have hlater := hadv.later
        exact .of_step hw hs hadv
          (ih (by rwa [hadv.opl]) (by omega) hadv.unanswered (by omega))
    · have hleft : 1 ≤ n := by omega
      obtain ⟨m, rfl⟩ := Nat.exists_eq_add_of_le' hleft
      exact endsIdle_release hph m

/-! ### Whole commands -/

/-- An admitted WRITE or READ starts in phase 1 with nine steps to go. -/
theorem runCommand_transaction_admitted {s : State} {op ch : Byte} {addr : Nat} {data : Byte}
    (ho : op = 0x02#8 ∨ op = 0x03#8) (hw : s.ph = .wait)
    (hb : boundaryStatus op ch addr s = statusOk) :
    ∃ t, runCommand op ch addr data s = .next t ∧ t.en = false ∧
      (s.NoReset 9 → ∃ es st rd, t.trace = s.trace ++ es ++ [.lwEn false, .rsp st rd]) := by
  have hph : (s.accept op ch addr data).ph = .setSel := by rcases ho with rfl | rfl <;> rfl
  rw [runCommand_admitted hw hb]
  exact endsIdle_transaction (s := s.accept op ch addr data) ho (by rw [hph]; decide)
    (by rw [hph]; decide) (by rw [hph]; decide)

/-- Settles O40, by the two ways a WRITE or READ can leave the boundary. -/
theorem transactionEndsIdle : Obligations.TransactionEndsIdle := by
  intro s ch addr data i hw hi
  obtain ⟨op, ho, hexec⟩ := exec_transaction hi s
  rw [hexec]
  refine ⟨fun hch ha hm => ?_, fun hrefused => ?_⟩
  · obtain ⟨t, hrun, hen, htrace⟩ :=
      runCommand_transaction_admitted ho hw (boundaryStatus_transaction ho hch ha hm)
    exact ⟨t, hrun, hen, by rw [State.sel, hen, decoder_false], htrace⟩
  · exact ⟨_, _, _, runCommand_refused hw (boundaryStatus_transaction_refused ho hrefused), rfl, rfl, rfl⟩

end Sys2Proof.Machine
end

section
/-!
Proofs of the family 60_exceptions.md. The status a command gets at the boundary is the first condition
met in the order of R178, one lemma per condition; whatever the status, a refused command is its response
and nothing else (R179).
-/

namespace Sys2Proof.Machine

/-! ### The conditions of a command that takes a channel -/

/-- With no such channel InvalidChannel is reported, before the address and the lines are looked at
(R178). -/
theorem boundaryStatus_invalidChannel {op ch : Byte} {addr : Nat} {s : State}
    (hc : isCommandOp op = true) (h0 : op ≠ 0x00#8) (hch : s.cfg.nCh ≤ ch.toNat) :
    boundaryStatus op ch addr s = statusInvalidChannel := by
  rw [boundaryStatus, if_neg (by simp [hc]), if_neg h0, if_pos hch]

/-- At a valid channel a WRITE or READ beyond 24 bits reports InvalidAddress, whatever channel is asserted
(R172, R178). -/
theorem boundaryStatus_invalidAddress {op ch : Byte} {addr : Nat} {s : State}
    (hc : isCommandOp op = true) (h0 : op ≠ 0x00#8) (hch : ch.toNat < s.cfg.nCh)
    (ho : op = 0x02#8 ∨ op = 0x03#8) (ha : 2 ^ 24 ≤ addr) :
    boundaryStatus op ch addr s = statusInvalidAddress := by
  rw [boundaryStatus, if_neg (by simp [hc]), if_neg h0, if_neg (Nat.not_le.mpr hch), if_pos ⟨ho, ha⟩]

/-- With the channel and the address in order, another channel asserted is a SelectConflict (R116,
R178). -/
theorem boundaryStatus_selectConflict {op ch : Byte} {addr : Nat} {s : State}
    (hc : isCommandOp op = true) (h0 : op ≠ 0x00#8) (hch : ch.toNat < s.cfg.nCh)
    (ha : op = 0x02#8 ∨ op = 0x03#8 → addr < 2 ^ 24) (hconflict : s.en = true ∧ s.code.setWidth 8 ≠ ch) :
    boundaryStatus op ch addr s = statusSelectConflict := by
  have haddr : ¬((op = 0x02#8 ∨ op = 0x03#8) ∧ 2 ^ 24 ≤ addr) :=
    fun ⟨ho, hge⟩ => Nat.not_le.mpr (ha ho) hge
  rw [boundaryStatus, if_neg (by simp [hc]), if_neg h0, if_neg (Nat.not_le.mpr hch), if_neg haddr,
    if_pos hconflict]

/-! ### The answer -/

/-- A status other than OK at the boundary is answered, and nothing else changes (R179). -/
theorem runCommand_answers {s : State} {op ch : Byte} {addr : Nat} {st : Byte} (hw : s.ph = .wait)
    (hb : boundaryStatus op ch addr s = st) (hst : st ≠ statusOk) (data : Byte) :
    ∃ rd d, runCommand op ch addr data s = .next
      { s with draws := d, trace := s.trace ++ [.rsp st rd] } := by
  subst hb
  exact ⟨_, _, runCommand_refused hw hst⟩

/-- Settles O21, clause by clause in the order of R178. -/
theorem boundaryConditionsInOrder : Obligations.BoundaryConditionsInOrder := by
  intro s ch a addr data hw
  refine ⟨fun hch => ?invalidChannel, fun hch ha => ?invalidAddress,
    fun hch hen hcode => ?selectConflict, ?reserved01, ?reserved05⟩
  case invalidChannel =>
    have answers {op : Byte} (addr : Nat) (hc : isCommandOp op = true) (h0 : op ≠ 0x00#8) :=
      runCommand_answers hw (boundaryStatus_invalidChannel (addr := addr) hc h0 hch) (by decide) data
    exact ⟨answers a.toNat rfl (by decide), answers addr rfl (by decide), answers addr rfl (by decide)⟩
  case invalidAddress =>
    have answers {op : Byte} (hc : isCommandOp op = true) (h0 : op ≠ 0x00#8)
        (ho : op = 0x02#8 ∨ op = 0x03#8) :=
      runCommand_answers hw (boundaryStatus_invalidAddress hc h0 hch ho ha) (by decide) data
    exact ⟨answers rfl (by decide) (.inl rfl), answers rfl (by decide) (.inr rfl)⟩
  case selectConflict =>
    have answers {op : Byte} {addr : Nat} (hc : isCommandOp op = true) (h0 : op ≠ 0x00#8)
        (ha : op = 0x02#8 ∨ op = 0x03#8 → addr < 2 ^ 24) :=
      runCommand_answers hw (boundaryStatus_selectConflict hc h0 hch ha ⟨hen, hcode⟩) (by decide) data
    exact ⟨answers rfl (by decide) fun _ => a.isLt,
      fun ha => ⟨answers rfl (by decide) fun _ => ha, answers rfl (by decide) fun _ => ha⟩⟩
  case reserved01 =>
    exact runCommand_answers hw (boundaryStatus_reserved rfl ch a.toNat s) (by decide) data
  case reserved05 =>
    exact runCommand_answers hw (boundaryStatus_reserved rfl ch a.toNat s) (by decide) data

end Sys2Proof.Machine
end

section
/-!
The sequencer as a relation: every step is a reset, an abort or a row of the phase table (R151, R154,
R200). What every step keeps is proved by these cases; what every step of the sequencer keeps, every run
of phases and every step of the machine keeps, since each step of the machine is a run of steps of the
sequencer (R156).
-/

namespace Sys2Proof.Machine

/-! ### Moves of the sequencer -/

/-- What a phase from 3 to 6 sends, the opcode and the address bytes, and the phase it moves to (R151). -/
def State.headerByte (s : State) : Option (Byte × Phase) :=
  match s.ph with
  | .opc => some (s.opl, .a2)
  | .a2 => some (addrByte2 s.addr, .a1)
  | .a1 => some (addrByte1 s.addr, .a0)
  | .a0 => some (addrByte0 s.addr, .dat)
  | _ => none

/-- The rows of the phase table (R151), `b` saying whether the bus fails in this step. -/
inductive State.PhaseRow (b : Bool) (s : State) : State → Prop
  | waits (hph : s.ph = .wait) (hport : s.port = []) : s.PhaseRow b s
  | takes {cw : CommandWord} {rest : List CommandWord} (hph : s.ph = .wait) (hport : s.port = cw :: rest) :
      s.PhaseRow b
        ((s.takeWord cw rest).boundary (cwOp cw) (cwCh cw) (cwAddr cw).toNat (cwData cw))
  | setSel (hph : s.ph = .setSel) : s.PhaseRow b ((s.lineWriteSel (pat s.ch)).goto .enable)
  | enable {p : Phase} (hph : s.ph = .enable) (hnext : afterEnable s.opl = some p) :
      s.PhaseRow b ((s.lineWriteEn true).goto p)
  | header {tx : Byte} {p : Phase} (hsend : s.headerByte = some (tx, p)) :
      s.PhaseRow b ((s.xfer b tx).goto p)
  | store (hph : s.ph = .dat) (ho : s.opl = 0x02#8) : s.PhaseRow b ((s.xfer b s.wd).goto .release)
  | load (hph : s.ph = .dat) (ho : s.opl = 0x03#8) :
      s.PhaseRow b
        { s.xfer b s.cfg.dummyByte with rd := (s.xfer b s.cfg.dummyByte).rx, ph := .release }
  | release (hph : s.ph = .release) : s.PhaseRow b ((s.lineWriteEn false).goto .respond)
  | respond (hph : s.ph = .respond) : s.PhaseRow b s.respondLatched.endCommand

/-- The steps of the sequencer (R160). -/
inductive State.Move (s : State) : State → Prop
  | reset (hr : s.envNow.reset = true) : s.Move s.envNext.takeReset
  | abort (ha : s.envNow.abort = true) (hp : s.ph.abortable = true) : s.Move s.envNext.takeAbort
  | row {t : State} (hr : s.envNow.reset = false) (h : s.envNext.PhaseRow s.envNow.busFault t) : s.Move t

/-- A phase's action is a row of the table. -/
theorem phaseAction_row {s t : State} {b : Bool} (h : s.phaseAction b = .next t) : s.PhaseRow b t := by
  cases hph : s.ph with
  | wait =>
    rw [phaseAction_wait hph] at h
    cases h
    unfold State.acceptPhase
    split
    next hport => exact .waits hph hport
    next hport => exact .takes hph hport
  | setSel => rw [phaseAction_setSel hph] at h; cases h; exact .setSel hph
  | enable =>
    simp only [State.phaseAction, hph] at h
    split at h
    next hnext => cases h; exact .enable hph hnext
    next => cases h
  | opc => rw [phaseAction_opc hph] at h; cases h; exact .header (by simp [State.headerByte, hph])
  | a2 => rw [phaseAction_a2 hph] at h; cases h; exact .header (by simp [State.headerByte, hph])
  | a1 => rw [phaseAction_a1 hph] at h; cases h; exact .header (by simp [State.headerByte, hph])
  | a0 => rw [phaseAction_a0 hph] at h; cases h; exact .header (by simp [State.headerByte, hph])
  | dat =>
    by_cases hw : s.opl = 0x02#8
    · rw [phaseAction_dat_write hph hw] at h; cases h; exact .store hph hw
    · by_cases hr : s.opl = 0x03#8
      · rw [phaseAction_dat_read hph hr] at h; cases h; exact .load hph hr
      · simp [State.phaseAction, State.dataPhase, hph, hw, hr] at h
  | release => rw [phaseAction_release hph] at h; cases h; exact .release hph
  | respond => rw [phaseAction_respond hph] at h; cases h; exact .respond hph

/-- A step of the sequencer is one of its moves. -/
theorem seqStep_move {s t : State} (h : seqStep s = .next t) : s.Move t := by
  rcases seqStep_cases s with ⟨hr, hs⟩ | ⟨-, ha, hp, hs⟩ | ⟨hr, hs⟩
  · cases hs.symm.trans h; exact .reset hr
  · cases hs.symm.trans h; exact .abort ha hp
  · exact .row hr (phaseAction_row (hs.symm.trans h))

/-- A header byte is sent from one transfer phase and the sequencer moves to another (R130). -/
theorem headerByte_transfers {s : State} {tx : Byte} {p : Phase} (h : s.headerByte = some (tx, p)) :
    s.ph.transfers = true ∧ p.transfers = true ∧ p.beforeBytes = false := by
  cases hph : s.ph <;> simp [State.headerByte, hph] at h <;> obtain ⟨-, rfl⟩ := h <;> decide

/-- The header is sent phase by phase, behind the enable phase (R151). -/
theorem headerByte_next {s : State} {tx : Byte} {p : Phase} (h : s.headerByte = some (tx, p)) :
    p.number.toNat = s.ph.number.toNat + 1 ∧ 2 < s.ph.number.toNat := by
  cases hph : s.ph <;> simp [State.headerByte, hph] at h <;> obtain ⟨-, rfl⟩ := h <;> decide

/-- The phases a SELECT, WRITE or READ moves to from phase 2 (R151). -/
theorem afterEnable_cases {op : Byte} {p : Phase} (h : afterEnable op = some p) :
    (op = 0x04#8 ∧ p = .respond) ∨ ((op = 0x02#8 ∨ op = 0x03#8) ∧ p = .opc) := by
  unfold afterEnable at h
  split at h
  next ho => exact .inl ⟨ho, (Option.some.inj h).symm⟩
  next =>
    split at h
    next ho => exact .inr ⟨ho, (Option.some.inj h).symm⟩
    next => cases h

/-! ### What steps keep, runs keep -/

/-- What every step inside a command keeps, a run of phases keeps. -/
theorem runPhases_keeps {P : State → Prop}
    (hstep : ∀ u v : State, u.ph ≠ .wait → P u → seqStep u = .next v → P v) {n : Nat} {s t : State}
    (hs : P s) (h : runPhases n s = .next t) : P t := by
  induction n generalizing s with
  | zero => cases h; exact hs
  | succ n ih =>
    by_cases hw : s.ph = .wait
    · cases (runPhases_wait hw (n + 1)).symm.trans h; exact hs
    · cases hu : seqStep s with
      | next u => rw [runPhases_step hw hu] at h; exact ih (hstep s u hw hs hu) h
      | fault r => simp [runPhases, hw, hu] at h
      | refused r => simp [runPhases, hw, hu] at h

/-- The command word fetched is run with its own fields, whatever row the decoder finds for it. -/
theorem step_fetched {s t : State} {cw : CommandWord} (hf : s.fetch = some (cw, t)) :
    step s = runCommand (cwOp cw) (cwCh cw) (cwAddr cw).toNat (cwData cw) t := by
  by_cases hres : isCommandOp (cwOp cw) = false
  · exact step_reserved hf hres
  · unfold step
    simp only [hf]
    simp only [isCommandOp, Bool.not_eq_false, Bool.or_eq_true, decide_eq_true_eq] at hres
    rcases hres with ((ho | ho) | ho) | ho <;> simp only [decodeCommand, ho] <;> rfl

/-- Without a word to fetch the machine's step is the sequencer's. -/
theorem step_unfetched {s : State} (hf : s.fetch = none) : step s = seqStep s := by
  simp only [step, hf]

/-- In the middle of a command nothing is fetched (R152). -/
theorem fetch_busy {s : State} (h : s.ph ≠ .wait) : s.fetch = none := if_neg fun hw => h hw.1

/-- In a step with a reset nothing is fetched (R200). -/
theorem fetch_reset {s : State} (h : s.envNow.reset = true) : s.fetch = none :=
  if_neg fun hr => by simp [h] at hr

/-- With no word presented nothing is fetched (R158). -/
theorem fetch_noWord {s : State} (h : s.port = []) : s.fetch = none := by
  unfold State.fetch
  split
  · rw [h]
  · rfl

/-- In phase 0 without a reset the sequencer looks at the command port, whether an abort is requested or not
(R151, R154). -/
theorem seqStep_wait {s : State} (hw : s.ph = .wait) (hr : s.envNow.reset = false) :
    seqStep s = .next s.envNext.acceptPhase := by
  have hna : s.ph.abortable = false := by rw [hw]; rfl
  rw [seqStep_action hr (.inr hna), phaseAction_wait (s := s.envNext) hw]

/-- What phase 0 does: wait, or take a word and load the latches or answer (R151, R152). -/
theorem acceptPhase_cases (s : State) :
    (s.port = [] ∧ s.acceptPhase = s) ∨
      ∃ cw rest, s.port = cw :: rest ∧
        ((boundaryStatus (cwOp cw) (cwCh cw) (cwAddr cw).toNat s = statusOk ∧
            s.acceptPhase =
              (s.takeWord cw rest).accept (cwOp cw) (cwCh cw) (cwAddr cw).toNat (cwData cw)) ∨
          (boundaryStatus (cwOp cw) (cwCh cw) (cwAddr cw).toNat s ≠ statusOk ∧
            s.acceptPhase = (s.takeWord cw rest).respondFree
              (boundaryStatus (cwOp cw) (cwCh cw) (cwAddr cw).toNat s))) := by
  cases hport : s.port with
  | nil => exact .inl ⟨rfl, by simp [State.acceptPhase, hport]⟩
  | cons cw rest =>
    have haccept : s.acceptPhase = (s.takeWord cw rest).boundary (cwOp cw) (cwCh cw) (cwAddr cw).toNat
        (cwData cw) := by simp [State.acceptPhase, hport]
    rw [haccept]
    by_cases hb : boundaryStatus (cwOp cw) (cwCh cw) (cwAddr cw).toNat s = statusOk
    · exact .inr ⟨cw, rest, rfl, .inl ⟨hb, boundary_admitted (s := s.takeWord cw rest) hb⟩⟩
    · exact .inr ⟨cw, rest, rfl, .inr ⟨hb, boundary_refused (s := s.takeWord cw rest) hb⟩⟩

/-- Settles O30: the word taken in phase 0 goes through the boundary in the sequencer's step, and the
phases that follow are the run. -/
theorem stepIsARunOfSequencerSteps : Obligations.StepIsARunOfSequencerSteps := by
  intro s hw
  have single {t : State} (hf : s.fetch = none) (hs : seqStep s = .next t) (ht : t.ph = .wait) :
      ∃ t, seqStep s = .next t ∧ step s = runPhases 9 t :=
    ⟨t, hs, by rw [step_unfetched hf, hs, runPhases_wait ht]⟩
  cases hr : s.envNow.reset with
  | true => exact single (fetch_reset hr) (seqStep_reset hr) (State.takeReset_ph _)
  | false =>
    have hs := seqStep_wait hw hr
    cases hport : s.port with
    | nil =>
      have hstay : s.envNext.acceptPhase = s.envNext := by simp [State.acceptPhase, hport]
      rw [hstay] at hs
      exact single (fetch_noWord hport) hs hw
    | cons cw rest =>
      refine ⟨_, hs, ?_⟩
      rw [step_fetched (fetch_presented hw hr hport), runCommand, if_pos (by simpa using hw)]
      simp [State.acceptPhase, hport]

/-- What every step of the sequencer keeps, every step of the machine keeps. -/
theorem step_keeps {P : State → Prop} (hstep : ∀ u v : State, P u → seqStep u = .next v → P v)
    {s t : State} (hs : P s) (h : step s = .next t) : P t := by
  by_cases hw : s.ph = .wait
  · obtain ⟨u, hu, hrun⟩ := stepIsARunOfSequencerSteps s hw
    exact runPhases_keeps (fun u v _ => hstep u v) (hstep s u hs hu) (hrun.symm.trans h)
  · exact hstep s t hs ((step_unfetched (fetch_busy hw)).symm.trans h)

end Sys2Proof.Machine
end

section
/-!
The invariant. `Coherent` is kept by every move of the sequencer: where the frame buffers are empty
afterwards only the lines and the latches are to be looked at, and while a frame is sent the lines stay
and only the asserted device receives bytes (R30, R68).
-/

namespace Sys2Proof.Machine

/-! ### The boundary -/

/-- A command is admitted if it is IDLE, or if its channel and its address are valid and no other channel
is asserted (R152, R178). -/
theorem boundaryStatus_admits {op ch : Byte} {addr : Nat} {s : State}
    (h : boundaryStatus op ch addr s = statusOk) :
    op = 0x00#8 ∨ (op = 0x02#8 ∨ op = 0x03#8 ∨ op = 0x04#8) ∧ ch.toNat < s.cfg.nCh ∧
      (op = 0x02#8 ∨ op = 0x03#8 → addr < 2 ^ 24) ∧ s.MaySelect ch := by
  unfold boundaryStatus at h
  split at h
  next => exact absurd h (by decide)
  next hop =>
    split at h
    next h0 => exact .inl h0
    next h0 =>
      split at h
      next => exact absurd h (by decide)
      next hch =>
        split at h
        next => exact absurd h (by decide)
        next ha =>
          split at h
          next => exact absurd h (by decide)
          next hm =>
            refine .inr ⟨?_, by omega, fun ho => ?_, fun hen => ?_⟩
            · simpa [isCommandOp, h0, imp_iff_not_or, or_assoc] using hop
            · exact Nat.lt_of_not_le fun hge => ha ⟨ho, hge⟩
            · exact Classical.not_not.1 fun hne => hm ⟨hen, hne⟩

/-- The response: the byte read for a READ with status OK, a free byte for all others (R99, R157). -/
theorem respondLatched_cases (s : State) :
    (s.opl = 0x03#8 ∧ s.st = statusOk ∧ s.respondLatched = s.emit (.rsp s.st s.rd)) ∨
      (¬(s.opl = 0x03#8 ∧ s.st = statusOk) ∧ s.respondLatched = s.respondFree s.st) := by
  by_cases h : s.opl = 0x03#8 ∧ s.st = statusOk
  · exact .inl ⟨h.1, h.2, if_pos h⟩
  · exact .inr ⟨h, if_neg h⟩

/-! ### What the invariant says in a phase -/

/-- The command running is a WRITE or READ behind its enable phase: what `State.phaseInv` says in the
transfer phases. -/
def State.OnFrame (s : State) : Prop :=
  (s.opl = 0x02#8 ∨ s.opl = 0x03#8) ∧ s.st = statusOk ∧ s.ch.toNat < s.cfg.nCh ∧ s.en = true ∧
    s.selLines = pat s.ch

theorem phaseInv_transfers {s : State} (hp : s.ph.transfers = true) : s.phaseInv ↔ s.OnFrame := by
  cases hph : s.ph with
  | wait | setSel | enable | release | respond => rw [hph] at hp; exact absurd hp (by decide)
  | opc | a2 | a1 | a0 | dat => simp only [State.phaseInv, hph, State.OnFrame]

section Phases

variable {s : State} (h : Coherent s)
include h

theorem Coherent.at_setSel (hph : s.ph = .setSel) :
    (s.opl = 0x02#8 ∨ s.opl = 0x03#8 ∨ s.opl = 0x04#8) ∧ s.st = statusOk ∧ s.ch.toNat < s.cfg.nCh ∧
      s.MaySelect s.ch := by
  simpa only [State.phaseInv, hph] using h.phase

theorem Coherent.at_enable (hph : s.ph = .enable) :
    (s.opl = 0x02#8 ∨ s.opl = 0x03#8 ∨ s.opl = 0x04#8) ∧ s.st = statusOk ∧ s.ch.toNat < s.cfg.nCh ∧
      s.selLines = pat s.ch := by
  simpa only [State.phaseInv, hph] using h.phase

theorem Coherent.at_transfer (hp : s.ph.transfers = true) : s.OnFrame := (phaseInv_transfers hp).1 h.phase

theorem Coherent.at_release (hph : s.ph = .release) :
    s.opl = 0x00#8 ∨ s.opl = 0x02#8 ∨ s.opl = 0x03#8 ∨ s.opl = 0x04#8 ∧ s.st = statusAborted := by
  simpa only [State.phaseInv, hph] using h.phase

theorem Coherent.at_respond (hph : s.ph = .respond) :
    s.en = true → s.opl = 0x04#8 ∧ s.st = statusOk ∧ s.code.setWidth 8 = s.ch := by
  have hinv := h.phase
  simp only [State.phaseInv, hph] at hinv
  exact hinv.1

/-- In the phases an abort is looked at a SELECT, WRITE or READ is running (R154). -/
theorem Coherent.abortable_opl (hp : s.ph.abortable = true) :
    s.opl = 0x02#8 ∨ s.opl = 0x03#8 ∨ s.opl = 0x04#8 := by
  cases hph : s.ph with
  | wait | release | respond => rw [hph] at hp; exact absurd hp (by decide)
  | setSel => exact (h.at_setSel hph).1
  | enable => exact (h.at_enable hph).1
  | opc | a2 | a1 | a0 | dat =>
    obtain ⟨ho, -⟩ := h.at_transfer (by rw [hph]; rfl)
    exact ho.imp_right .inl

/-- With the enable line deasserted no device holds a byte (R68). -/
theorem Coherent.fr_of_disabled (hen : s.en = false) : s.fr = noFrames :=
  frames_eq_noFrames fun k => h.unselected_empty k (by simp [State.sel, hen])

/-- Once the enable line is deasserted no device holds a byte (R68, R117). -/
theorem Coherent.fr_after_release : forgetFrames s.sel none s.fr = noFrames := by
  cases hen : s.en with
  | false => rw [h.fr_of_disabled hen, forgetFrames_noFrames]
  | true => exact forgetFrames_change (by simp [State.sel, hen]) _

/-- The device a transfer can reach is the command's (R69, R140). -/
theorem Coherent.device_transfer (hp : s.ph.transfers = true) : s.device = some (chanOf s.ch) := by
  obtain ⟨-, -, hch, hen, hp⟩ := h.at_transfer hp
  exact device_of_asserted hen hp h.cfg_wf.2.1 hch

end Phases

/-! ### What keeps the invariant -/

/-- With all frame buffers empty the invariant is one of the lines and the latches. -/
theorem coherent_of_noFrames {s : State} (hcfg : s.cfg.wf) (hmem : s.mem.wf) (hfr : s.fr = noFrames)
    (hsel : s.en = true → s.code.toNat < s.cfg.nCh) (hst : s.st = statusOk ∨ s.st = statusAborted)
    (hphase : s.phaseInv) : Coherent s where
  cfg_wf := hcfg
  mem_wf := hmem
  selected_valid := hsel
  unselected_empty k _ := by rw [State.frameOf]; simp only [hfr, noFrames_get]
  rest_empty _ := hfr
  status := hst
  phase := hphase

/-- The invariant does not look at the inputs, the events, the operands `ADDR`, `WD` and `RD`, the byte
received and the free values. -/
theorem Coherent.with_unread {s : State} (h : Coherent s) (addr : Addr) (wd rd rx : Byte)
    (port : List CommandWord) (env : List EnvIn) (trace : List Event) (draws : Nat) :
    Coherent
      { s with
        addr := addr, wd := wd, rd := rd, rx := rx, port := port, env := env, trace := trace
        draws := draws } :=
  ⟨h.cfg_wf, h.mem_wf, h.selected_valid, h.unselected_empty, h.rest_empty, h.status, h.phase⟩

theorem Coherent.envNext {s : State} (h : Coherent s) : Coherent s.envNext := h.with_unread ..

/-- The pattern of a valid channel shows a valid channel (R88). -/
theorem Coherent.lineCode_valid {s : State} (h : Coherent s) {ch : Byte} (hch : ch.toNat < s.cfg.nCh) :
    (lineCode (pat ch)).toNat < s.cfg.nCh := by
  have h8 := h.cfg_wf.2.1
  rwa [lineCode_pat, chanOf_toNat (by omega)]

theorem Coherent.takeReset {s : State} (h : Coherent s) : Coherent s.takeReset :=
  coherent_of_noFrames h.cfg_wf (interruptedMem_wf h.mem_wf)
    ((State.takeReset_fr s).trans h.fr_after_release) (fun hen => absurd hen (by simp)) (.inl rfl)
    (fun hen => absurd hen (by simp))

theorem Coherent.takeAbort {s : State} (h : Coherent s) (hp : s.ph.abortable = true) :
    Coherent s.takeAbort where
  cfg_wf := h.cfg_wf
  mem_wf := interruptedMem_wf h.mem_wf
  selected_valid := h.selected_valid
  unselected_empty := h.unselected_empty
  rest_empty hb := absurd hb Bool.false_ne_true
  status := .inr rfl
  phase := .inr ((h.abortable_opl hp).imp_right (.imp_right fun ho => ⟨ho, rfl⟩))

/-- The boundary step keeps the invariant: an admitted command has a row in phase 1 or 8, a refused one
changes nothing (R152, R179). -/
theorem Coherent.boundary {s : State} (h : Coherent s) (hph : s.ph = .wait) (op ch : Byte) (addr : Nat)
    (data : Byte) : Coherent (s.boundary op ch addr data) := by
  have hfr : s.fr = noFrames := h.rest_empty (by rw [hph]; rfl)
  by_cases hb : boundaryStatus op ch addr s = statusOk
  · rw [boundary_admitted hb]
    refine coherent_of_noFrames h.cfg_wf h.mem_wf hfr h.selected_valid (.inl rfl) ?_
    rcases boundaryStatus_admits hb with rfl | ⟨ho, hch, -, hm⟩
    · exact .inl rfl
    · have hph' : (s.accept op ch addr data).ph = .setSel := by rcases ho with rfl | rfl | rfl <;> rfl
      rw [State.phaseInv, hph']
      exact ⟨ho, rfl, hch, hm⟩
  · rw [boundary_refused hb]
    exact h.with_unread ..

/-- A transfer keeps the invariant: the asserted output stays, and the other devices receive nothing
(R68, R70). -/
theorem Coherent.xfer {s t : State} {b : Bool} {tx rd : Byte} {p : Phase} (h : Coherent s)
    (hp : s.ph.transfers = true) (hb : p.beforeBytes = false)
    (ht : t = { s.xfer b tx with rd := rd, ph := p }) (hphase : t.phaseInv) : Coherent t := by
  obtain ⟨-, hst, -⟩ := h.at_transfer hp
  subst ht
  refine ⟨h.cfg_wf, busReply_wf b tx h.mem_wf, h.selected_valid, fun k hk => ?_, fun hb' => ?_,
    .inl hst, hphase⟩
  · have hdev : s.device ≠ some k := by
      intro hd
      obtain ⟨-, -, -, hen, hpat⟩ := h.at_transfer hp
      rw [h.device_transfer hp] at hd
      exact hk (by simpa [State.sel, hen, hpat] using hd)
    exact (busReply_fr_other b tx s hdev).trans (h.unselected_empty k hk)
  · exact absurd (hb.symm.trans hb') (by decide)

/-- Every row of the phase table keeps the invariant. -/
theorem Coherent.phaseRow {s t : State} {b : Bool} (h : Coherent s) (hrow : s.PhaseRow b t) :
    Coherent t := by
  cases hrow with
  | waits => exact h
  | @takes cw rest hph => exact Coherent.boundary (s := s.takeWord cw rest) (h.with_unread ..) hph _ _ _ _
  | setSel hph =>
    obtain ⟨ho, hst, hch, -⟩ := h.at_setSel hph
    have hfr : s.fr = noFrames := h.rest_empty (by rw [hph]; rfl)
    exact coherent_of_noFrames h.cfg_wf h.mem_wf (by simp [hfr]) (fun _ => h.lineCode_valid hch)
      (.inl hst) ⟨ho, hst, hch, rfl⟩
  | enable hph hnext =>
    obtain ⟨-, hst, hch, hpat⟩ := h.at_enable hph
    have hfr : s.fr = noFrames := h.rest_empty (by rw [hph]; rfl)
    have h8 := h.cfg_wf.2.1
    have hcode : s.code = chanOf s.ch := by rw [State.code, hpat, lineCode_pat]
    refine coherent_of_noFrames h.cfg_wf h.mem_wf (by simp [hfr]) (fun _ => ?_) (.inl hst) ?_
    · exact Eq.trans_lt (congrArg BitVec.toNat (congrArg lineCode hpat)) (h.lineCode_valid hch)
    · rcases afterEnable_cases hnext with ⟨ho, rfl⟩ | ⟨ho, rfl⟩
      · exact ⟨fun _ => ⟨ho, hst, hcode ▸ chanOf_setWidth (by omega)⟩, fun _ _ => rfl⟩
      · exact ⟨ho, hst, hch, rfl, hpat⟩
  | @header tx p hsend =>
    obtain ⟨hs, hp, hb⟩ := headerByte_transfers hsend
    exact h.xfer hs hb rfl ((phaseInv_transfers hp).2 (h.at_transfer hs))
  | store hph ho => exact h.xfer (by rw [hph]; rfl) rfl rfl (.inr (.inl ho))
  | load hph ho => exact h.xfer (by rw [hph]; rfl) rfl rfl (.inr (.inr (.inl ho)))
  | release hph =>
    refine coherent_of_noFrames h.cfg_wf h.mem_wf h.fr_after_release
      (fun hen => absurd hen Bool.false_ne_true) h.status
      ⟨fun hen => absurd hen Bool.false_ne_true, fun (ho : s.opl = _) (hst : s.st = _) => ?_⟩
    have hinv := h.at_release hph
    rw [ho, hst] at hinv
    exact absurd hinv (by decide)
  | respond hph =>
    have hfr : s.fr = noFrames := h.rest_empty (by rw [hph]; rfl)
    rcases respondLatched_cases s with ⟨-, -, ht⟩ | ⟨-, ht⟩ <;> rw [ht] <;>
      exact coherent_of_noFrames h.cfg_wf h.mem_wf hfr h.selected_valid h.status (h.at_respond hph)

/-- Every move of the sequencer keeps the invariant. -/
theorem Coherent.move {s t : State} (h : Coherent s) (hmove : s.Move t) : Coherent t := by
  cases hmove with
  | reset => exact h.envNext.takeReset
  | abort _ hp => exact h.envNext.takeAbort hp
  | row _ hrow => exact h.envNext.phaseRow hrow

/-- Settles O46, by the moves of the sequencer. -/
theorem sequencerStepKeepsInvariant : Obligations.SequencerStepKeepsInvariant :=
  fun _ _ h hstep => h.move (seqStep_move hstep)

/-- Settles O45: a step of the machine is a run of steps that keep the invariant. -/
theorem stepKeepsInvariant : Obligations.StepKeepsInvariant :=
  fun _ _ => step_keeps sequencerStepKeepsInvariant

/-- Settles O44. -/
theorem invariantAtReset : Obligations.InvariantAtReset :=
  coherent_of_noFrames (by decide) reset_mem_wf rfl (fun hen => absurd hen Bool.false_ne_true) (.inl rfl)
    (fun hen => absurd hen Bool.false_ne_true)

end Sys2Proof.Machine
end

section
/-!
The course of a command. Inside a command a step of the sequencer is a reset, the response, or a step
that goes on to a later phase and emits neither a response nor `CMD`; so the command ends, within the
steps its phase leaves, and no reset means exactly one response (R151, R155, R157).
-/

namespace Sys2Proof.Machine

/-! ### Events -/

/-- The events a command emits between its `CMD` and its response. -/
def Event.isInner : Event → Bool
  | .cmd _ => false
  | .rsp _ _ => false
  | _ => true

theorem responses_append (es fs : List Event) : responses (es ++ fs) = responses es ++ responses fs := by
  induction es with
  | nil => rfl
  | cons e es ih => cases e <;> simp [responses, ih]

/-- Between the acceptance and the response nothing is answered. -/
theorem responses_inner {es : List Event} (h : ∀ e ∈ es, e.isInner = true) : responses es = [] := by
  induction es with
  | nil => rfl
  | cons e es ih =>
    obtain ⟨he, hes⟩ := List.forall_mem_cons.1 h
    cases e with
    | rsp => exact absurd he Bool.false_ne_true
    | cmd | lwSel | lwEn | xf | abt | rst => exact ih hes

/-- The response is one event with the status of the command, and changes nothing else (R157). -/
theorem respondLatched_eq (s : State) :
    ∃ rd d, s.respondLatched = { s with draws := d, trace := s.trace ++ [.rsp s.st rd] } := by
  rcases respondLatched_cases s with ⟨-, -, h⟩ | ⟨-, h⟩ <;> rw [h] <;> exact ⟨_, _, rfl⟩

/-! ### The phases left -/

/-- How many steps of the sequencer a command has left at most: a SELECT leaves out the phases 3 to 8
(R151, R155). -/
def State.stepsLeft (s : State) : Nat :=
  if s.ph = .wait then 0
  else if s.opl = 0x04#8 ∧ s.ph.number.toNat ≤ 2 then 5 - s.ph.number.toNat
  else 10 - s.ph.number.toNat

theorem Phase.number_le (p : Phase) : p.number.toNat ≤ 9 := by cases p <;> decide

theorem Phase.number_pos {p : Phase} : p ≠ .wait ↔ 0 < p.number.toNat := by cases p <;> decide

theorem stepsLeft_pos {s : State} : s.ph ≠ .wait ↔ 0 < s.stepsLeft := by
  have := s.ph.number_le
  unfold State.stepsLeft
  split
  next h => exact iff_of_false (not_not_intro h) (Nat.lt_irrefl 0)
  next h => split <;> exact iff_of_true h (by omega)

/-- No step has more than nine phases left. -/
theorem stepsLeft_le (s : State) : s.stepsLeft ≤ 9 := by
  by_cases h : s.ph = .wait
  · simp [State.stepsLeft, h]
  · have := Phase.number_pos.1 h
    unfold State.stepsLeft
    split
    · omega
    · split <;> omega

/-! ### One step inside a command -/

/-- A step of a running command that does not end it. -/
structure State.Continues (s t : State) : Prop where
  cfg : t.cfg = s.cfg
  opl : t.opl = s.opl
  port : t.port = s.port
  env : t.env = s.env.tail
  emits : ∃ e : Event, t.trace = s.trace ++ [e] ∧ e.isInner = true
  later : s.ph.number.toNat < t.ph.number.toNat
  /-- A SELECT goes past the transfer phases. -/
  skips : s.opl = 0x04#8 → s.ph.number.toNat ≤ 2 → t.ph.number.toNat ≤ 2 ∨ 8 ≤ t.ph.number.toNat
  /-- Only an abort changes the status. -/
  status : t.st = s.st ∨ t.st = statusAborted ∧ t.ph = .release ∧ s.envNow.abort = true

section Continues

variable {s t : State} (h : s.Continues t)
include h

theorem State.Continues.ph_ne_wait : t.ph ≠ .wait := Phase.number_pos.2 (Nat.zero_lt_of_lt h.later)

theorem State.Continues.stepsLeft_lt (hw : s.ph ≠ .wait) : t.stepsLeft < s.stepsLeft := by
  have hlater := h.later
  have hskips := h.skips
  have hpos := Phase.number_pos.1 hw
  have ht := t.ph.number_le
  unfold State.stepsLeft
  rw [if_neg hw, if_neg h.ph_ne_wait, h.opl]
  by_cases ho : s.opl = 0x04#8
  · have := hskips ho
    simp only [ho, true_and]
    split <;> split <;> omega
  · simp only [ho, false_and, if_false]
    omega

/-- What holds of the inputs of all steps left goes on to hold. -/
theorem State.Continues.inputs {P : EnvIn → Prop} (hw : s.ph ≠ .wait)
    (hs : ∀ e ∈ s.env.take s.stepsLeft, P e) : ∀ e ∈ t.env.take t.stepsLeft, P e := by
  have hlt := h.stepsLeft_lt hw
  rw [h.env]
  refine env_next fun e he => hs e (List.take_subset_take_left s.env ?_ he)
  omega

end Continues

theorem State.Continues.of_phases {s t : State} (p q : Phase) (hp : s.ph = p) (hq : t.ph = q)
    (hcfg : t.cfg = s.cfg) (hopl : t.opl = s.opl) (hport : t.port = s.port) (henv : t.env = s.env.tail)
    (hst : t.st = s.st) (he : ∃ e : Event, t.trace = s.trace ++ [e] ∧ e.isInner = true)
    (hlater : p.number.toNat < q.number.toNat)
    (hskips : s.opl = 0x04#8 → p.number.toNat ≤ 2 → q.number.toNat ≤ 2 ∨ 8 ≤ q.number.toNat) :
    s.Continues t := by
  subst hp hq
  exact ⟨hcfg, hopl, hport, henv, he, hlater, hskips, .inl hst⟩

/-- Each of the rows 1 to 8 of the phase table goes on to a later phase (R151). -/
theorem State.PhaseRow.continues {s t : State} {b : Bool} (hw : s.ph ≠ .wait)
    (h : s.envNext.PhaseRow b t) :
    s.Continues t ∨ s.ph = .respond ∧ t = s.envNext.respondLatched.endCommand := by
  cases h with
  | waits hph | takes hph => exact absurd hph hw
  | setSel hph =>
    exact .inl (.of_phases .setSel .enable hph rfl rfl rfl rfl rfl rfl ⟨_, rfl, rfl⟩ (by decide)
      fun _ => by decide)
  | @enable p hph hnext =>
    rcases afterEnable_cases hnext with ⟨-, rfl⟩ | ⟨ho, rfl⟩
    · exact .inl (.of_phases .enable .respond hph rfl rfl rfl rfl rfl rfl ⟨_, rfl, rfl⟩ (by decide)
        fun _ => by decide)
    · have hopl : s.opl ≠ 0x04#8 := by
        rcases ho with (ho : s.opl = _) | (ho : s.opl = _) <;> rw [ho] <;> decide
      exact .inl (.of_phases .enable .opc hph rfl rfl rfl rfl rfl rfl ⟨_, rfl, rfl⟩ (by decide)
        fun h4 => absurd h4 hopl)
  | header hsend =>
    obtain ⟨hnum, hbyte⟩ := headerByte_next hsend
    exact .inl (.of_phases _ _ rfl rfl rfl rfl rfl rfl rfl ⟨_, rfl, rfl⟩ hnum.ge
      fun _ h2 => absurd hbyte (Nat.not_lt.2 h2))
  | store hph | load hph =>
    exact .inl (.of_phases .dat .release hph rfl rfl rfl rfl rfl rfl ⟨_, rfl, rfl⟩ (by decide)
      fun _ => by decide)
  | release hph =>
    exact .inl (.of_phases .release .respond hph rfl rfl rfl rfl rfl rfl ⟨_, rfl, rfl⟩ (by decide)
      fun _ => by decide)
  | respond hph => exact .inr ⟨hph, rfl⟩

theorem takeAbort_continues {s : State} (ha : s.envNow.abort = true) (hp : s.ph.abortable = true) :
    s.Continues s.envNext.takeAbort where
  cfg := rfl
  opl := rfl
  port := rfl
  env := rfl
  emits := ⟨_, rfl, rfl⟩
  later := Nat.lt_succ_of_le (of_decide_eq_true hp).2
  skips _ _ := .inr (le_refl 8)
  status := .inr ⟨rfl, rfl, ha⟩

/-- Inside a command a step is a reset, a step that goes on, or the response. -/
theorem State.Move.inside {s t : State} (hw : s.ph ≠ .wait) (h : s.Move t) :
    (s.envNow.reset = true ∧ t = s.envNext.takeReset) ∨ s.Continues t ∨
      (s.ph = .respond ∧ t = s.envNext.respondLatched.endCommand) := by
  cases h with
  | reset hr => exact .inl ⟨hr, rfl⟩
  | abort ha hp => exact .inr (.inl (takeAbort_continues ha hp))
  | row _ hrow => exact .inr (hrow.continues hw)

/-- Inside a command the parameters and the command's latches stay, and the inputs of one step are used up
(R24, R151). -/
theorem State.Move.latches {s t : State} (hw : s.ph ≠ .wait) (h : s.Move t) :
    t.cfg = s.cfg ∧ t.opl = s.opl ∧ t.ch = s.ch ∧ t.addr = s.addr ∧ t.env = s.env.tail := by
  cases h with
  | reset | abort => exact ⟨rfl, rfl, rfl, rfl, rfl⟩
  | row _ hrow =>
    cases hrow with
    | waits hph | takes hph => exact absurd hph hw
    | setSel | enable | header | store | load | release => exact ⟨rfl, rfl, rfl, rfl, rfl⟩
    | respond =>
      obtain ⟨rd, d, hresp⟩ := respondLatched_eq s.envNext
      rw [hresp]
      exact ⟨rfl, rfl, rfl, rfl, rfl⟩

/-- Settles O32, by what a step inside a command is. -/
theorem phaseOnlyMovesForward : Obligations.PhaseOnlyMovesForward := by
  intro s t hw hs
  rcases (seqStep_move hs).inside hw with ⟨hr, rfl⟩ | hc | ⟨hph, rfl⟩
  · exact .inr ⟨rfl, .inr hr⟩
  · exact .inl hc.later
  · exact .inr ⟨rfl, .inl hph⟩

/-- Settles O33: what a step inside a command emits is a reset, an inner event or the response. -/
theorem busyPortAcceptsNothing : Obligations.BusyPortAcceptsNothing := by
  intro s t hw hs
  rcases (seqStep_move hs).inside hw with ⟨-, rfl⟩ | hc | ⟨-, rfl⟩
  · exact ⟨rfl, _, rfl, by simp⟩
  · obtain ⟨e, ht, he⟩ := hc.emits
    refine ⟨hc.port, [e], ht, fun cw hcw => ?_⟩
    rw [← List.mem_singleton.1 hcw] at he
    exact Bool.false_ne_true he
  · obtain ⟨rd, d, hresp⟩ := respondLatched_eq s.envNext
    rw [hresp]
    exact ⟨rfl, _, rfl, by simp⟩

/-! ### Every phase a command reaches has a row -/

/-- The phase table has a row for the operation running in this phase and in those that follow. -/
structure State.HasRow (s : State) : Prop where
  selection : s.ph = .setSel ∨ s.ph = .enable → s.opl = 0x02#8 ∨ s.opl = 0x03#8 ∨ s.opl = 0x04#8
  transfer : s.ph.transfers = true → s.opl = 0x02#8 ∨ s.opl = 0x03#8

/-- At rest and in the phases 8 and 9 every operation has a row (R151). -/
theorem State.HasRow.of_ph {s : State} (h : s.ph = .wait ∨ s.ph = .release ∨ s.ph = .respond) :
    s.HasRow := by
  constructor <;> intro hp <;> rcases h with h | h | h <;> rw [h] at hp <;> exact absurd hp (by decide)

theorem Coherent.hasRow {s : State} (h : Coherent s) : s.HasRow where
  selection hph := hph.elim (fun hph => (h.at_setSel hph).1) (fun hph => (h.at_enable hph).1)
  transfer hp := (h.at_transfer hp).1

/-- An admitted command has its rows (R152). -/
theorem hasRow_accept {s : State} {op ch : Byte} {addr : Nat} {data : Byte}
    (hb : boundaryStatus op ch addr s = statusOk) : (s.accept op ch addr data).HasRow := by
  rcases boundaryStatus_admits hb with rfl | ⟨ho, -⟩
  · exact .of_ph (.inr (.inl rfl))
  · have hph : (s.accept op ch addr data).ph = .setSel := by rcases ho with rfl | rfl | rfl <;> rfl
    exact ⟨fun _ => ho, fun hp => absurd hp (by rw [hph]; decide)⟩

/-- A phase with a row acts (R151). -/
theorem phaseAction_next {s : State} {b : Bool} (h : s.HasRow) : ∃ t, s.phaseAction b = .next t := by
  cases hph : s.ph with
  | wait => exact ⟨_, phaseAction_wait hph⟩
  | setSel => exact ⟨_, phaseAction_setSel hph⟩
  | enable =>
    obtain ⟨p, hp⟩ : ∃ p, afterEnable s.opl = some p := by
      rcases h.selection (.inr hph) with ho | ho | ho <;> rw [ho] <;> exact ⟨_, rfl⟩
    exact ⟨_, phaseAction_enable hph hp⟩
  | opc => exact ⟨_, phaseAction_opc hph⟩
  | a2 => exact ⟨_, phaseAction_a2 hph⟩
  | a1 => exact ⟨_, phaseAction_a1 hph⟩
  | a0 => exact ⟨_, phaseAction_a0 hph⟩
  | dat =>
    rcases h.transfer (by rw [hph]; rfl) with ho | ho
    · exact ⟨_, phaseAction_dat_write hph ho⟩
    · exact ⟨_, phaseAction_dat_read hph ho⟩
  | release => exact ⟨_, phaseAction_release hph⟩
  | respond => exact ⟨_, phaseAction_respond hph⟩

/-- Where the phase has a row the sequencer does not stop. -/
theorem seqStep_next {s : State} (h : s.HasRow) : ∃ t, seqStep s = .next t := by
  rcases seqStep_cases s with ⟨-, hs⟩ | ⟨-, -, -, hs⟩ | ⟨-, hs⟩
  · exact ⟨_, hs⟩
  · exact ⟨_, hs⟩
  · rw [hs]
    exact phaseAction_next (s := s.envNext) ⟨h.selection, h.transfer⟩

theorem State.PhaseRow.hasRow {s t : State} {b : Bool} (h : s.HasRow) (hrow : s.PhaseRow b t) :
    t.HasRow := by
  cases hrow with
  | waits hph => exact .of_ph (.inl hph)
  | @takes cw rest hph =>
    by_cases hb : boundaryStatus (cwOp cw) (cwCh cw) (cwAddr cw).toNat (s.takeWord cw rest) = statusOk
    · rw [boundary_admitted hb]
      exact hasRow_accept hb
    · rw [boundary_refused hb]
      exact .of_ph (.inl hph)
  | setSel hph => exact ⟨fun _ => h.selection (.inl hph), fun hp => absurd hp Bool.false_ne_true⟩
  | enable hph hnext =>
    rcases afterEnable_cases hnext with ⟨-, rfl⟩ | ⟨ho, rfl⟩
    · exact .of_ph (.inr (.inr rfl))
    · exact ⟨fun _ => ho.imp_right .inl, fun _ => ho⟩
  | header hsend =>
    obtain ⟨hs, hp, -⟩ := headerByte_transfers hsend
    exact ⟨fun _ => (h.transfer hs).imp_right .inl, fun _ => h.transfer hs⟩
  | store | load => exact .of_ph (.inr (.inl rfl))
  | release => exact .of_ph (.inr (.inr rfl))
  | respond => exact .of_ph (.inl rfl)

/-- No move leads where the phase table has no row. -/
theorem State.Move.hasRow {s t : State} (h : s.HasRow) (hmove : s.Move t) : t.HasRow := by
  cases hmove with
  | reset => exact .of_ph (.inl rfl)
  | abort => exact .of_ph (.inr (.inl rfl))
  | row _ hrow => exact State.PhaseRow.hasRow (s := s.envNext) ⟨h.selection, h.transfer⟩ hrow

/-! ### The end of a command -/

/-- With as many steps as the phase leaves a command ends, in phase 0 (R155, R160). -/
theorem runPhases_ends {s : State} {n : Nat} (hrow : s.HasRow) (hleft : s.stepsLeft ≤ n) :
    ∃ t, runPhases n s = .next t ∧ t.ph = .wait := by
  induction n generalizing s with
  | zero =>
    have hw : s.ph = .wait := Classical.not_not.1 fun hw => Nat.not_le.2 (stepsLeft_pos.1 hw) hleft
    exact ⟨s, rfl, hw⟩
  | succ n ih =>
    by_cases hw : s.ph = .wait
    · exact ⟨s, runPhases_wait hw _, hw⟩
    · obtain ⟨t, hs⟩ := seqStep_next hrow
      have hmove := seqStep_move hs
      have hleft' : t.stepsLeft ≤ n := by
        rcases hmove.inside hw with ⟨-, rfl⟩ | hc | ⟨-, rfl⟩
        · exact Nat.zero_le n
        · have := hc.stepsLeft_lt hw
          omega
        · exact Nat.zero_le n
      rw [runPhases_step hw hs]
      exact ih (hmove.hasRow hrow) hleft'

/-- A running command comes to a reset or to its response; what the steps before that keep still holds
there, and nothing has been answered yet (R155, R157). -/
theorem runPhases_course {P : State → Prop}
    (hP : ∀ u v : State, u.ph ≠ .wait → P u → seqStep u = .next v → u.Continues v → P v)
    {s : State} {n : Nat} (hs : P s) (hw : s.ph ≠ .wait) (hrow : s.HasRow) (hleft : s.stepsLeft ≤ n) :
    ∃ u es, P u ∧ u.ph ≠ .wait ∧ u.trace = s.trace ++ es ∧ (∀ e ∈ es, e.isInner = true) ∧
      (u.envNow.reset = true ∧ runPhases n s = .next u.envNext.takeReset ∨
        u.ph = .respond ∧ runPhases n s = .next u.envNext.respondLatched.endCommand) := by
  induction n generalizing s with
  | zero => exact absurd hleft (Nat.not_le.2 (stepsLeft_pos.1 hw))
  | succ n ih =>
    obtain ⟨t, hstep⟩ := seqStep_next hrow
    have hmove := seqStep_move hstep
    rw [runPhases_step hw hstep]
    rcases hmove.inside hw with ⟨hr, rfl⟩ | hc | ⟨hph, rfl⟩
    · exact ⟨s, [], hs, hw, (List.append_nil _).symm, by simp, .inl ⟨hr, runPhases_wait rfl n⟩⟩
    · have hlt := hc.stepsLeft_lt hw
      obtain ⟨e, ht, he⟩ := hc.emits
      obtain ⟨u, es, hu, huw, htrace, hes, hend⟩ :=
        ih (hP s t hw hs hstep hc) hc.ph_ne_wait (hmove.hasRow hrow) (by omega)
      exact ⟨u, e :: es, hu, huw, by simp [htrace, ht], List.forall_mem_cons.2 ⟨he, hes⟩, hend⟩
    · exact ⟨s, [], hs, hw, (List.append_nil _).symm, by simp, .inr ⟨hph, runPhases_wait rfl n⟩⟩

end Sys2Proof.Machine
end

section
/-!
Statements of every command. Each command is a run of one sequence from the boundary (R156), so what its
answer is, and what the lines show then, is proved of that run.
-/

namespace Sys2Proof.Machine

/-! ### From the boundary to the end -/

/-- Every command is run from the boundary, with the operands it names (R152, R156). -/
theorem exec_command {i : Instr} (hi : i.isCommand = true) :
    ∃ op ch addr data, ∀ s : State, exec i s = runCommand op ch addr data s := by
  cases i with
  | idle ch addr data => exact ⟨_, ch, addr.toNat, data, fun _ => rfl⟩
  | write ch addr data => exact ⟨_, ch, addr, data, fun _ => rfl⟩
  | read ch addr data => exact ⟨_, ch, addr, data, fun _ => rfl⟩
  | select ch addr data => exact ⟨_, ch, addr.toNat, data, fun _ => rfl⟩
  | reserved01 ch addr data => exact ⟨_, ch, addr.toNat, data, fun _ => rfl⟩
  | reserved05 ch addr data => exact ⟨_, ch, addr.toNat, data, fun _ => rfl⟩
  | writeFrame | readFrame => exact absurd hi Bool.false_ne_true

/-- The statuses the boundary gives; InvalidAddress only for an address of more than 24 bits (R172,
R178). -/
theorem boundaryStatus_cases (op ch : Byte) (addr : Nat) (s : State) :
    boundaryStatus op ch addr s = statusOk ∨ boundaryStatus op ch addr s = statusInvalidChannel ∨
      (boundaryStatus op ch addr s = statusInvalidAddress ∧ 2 ^ 24 ≤ addr) ∨
      boundaryStatus op ch addr s = statusIllegalCommand ∨
      boundaryStatus op ch addr s = statusSelectConflict := by
  unfold boundaryStatus
  split
  · simp
  · split
    · simp
    · split
      · simp
      · split
        next h => exact .inr (.inr (.inl ⟨rfl, h.2⟩))
        next => split <;> simp

section Course

variable {s : State} {op ch : Byte} {addr : Nat} {data : Byte}

theorem accept_ph_ne_wait : (s.accept op ch addr data).ph ≠ .wait := by
  rw [State.accept_ph]
  split <;> decide

/-- Every command ends in phase 0 (R155, R160). -/
theorem runCommand_ends (hw : s.ph = .wait) :
    ∃ t, runCommand op ch addr data s = .next t ∧ t.ph = .wait := by
  by_cases hb : boundaryStatus op ch addr s = statusOk
  · rw [runCommand_admitted hw hb]
    exact runPhases_ends (hasRow_accept hb) (stepsLeft_le _)
  · exact ⟨_, runCommand_refused hw hb, hw⟩

/-- What holds of the inputs of all steps left holds of the present one. -/
theorem input_now {Q : EnvIn → Prop} (hq : Q EnvIn.quiet) (hw : s.ph ≠ .wait)
    (h : ∀ e ∈ s.env.take s.stepsLeft, Q e) : Q s.envNow := by
  obtain ⟨m, hm⟩ := Nat.exists_eq_add_of_le' (stepsLeft_pos.1 hw)
  rw [hm] at h
  exact env_now hq h

/-- An admitted command ends with a reset, which deasserts the enable line, or with the response that carries
its status in phase 9; what its steps keep still holds there (R157, R200). -/
theorem runCommand_course {P : State → Prop}
    (hP : ∀ u v : State, u.ph ≠ .wait → P u → seqStep u = .next v → u.Continues v → P v)
    (hw : s.ph = .wait) (hb : boundaryStatus op ch addr s = statusOk) (hs : P (s.accept op ch addr data)) :
    ∃ u t es, runCommand op ch addr data s = .next t ∧ P u ∧ u.ph ≠ .wait ∧ responses es = [] ∧
      (∀ e ∈ es, e.isInner = true) ∧
      (u.envNow.reset = true ∧ t.en = false ∧ t.trace = s.trace ++ es ++ [.rst] ∨
        u.ph = .respond ∧ t.en = u.en ∧ t.selLines = u.selLines ∧
          ∃ rd, t.trace = s.trace ++ es ++ [.rsp u.st rd]) := by
  rw [runCommand_admitted hw hb]
  obtain ⟨u, es, hu, huw, htrace, hes, ⟨hr, hend⟩ | ⟨hph, hend⟩⟩ :=
    runPhases_course hP hs accept_ph_ne_wait (hasRow_accept hb) (stepsLeft_le _)
  · exact ⟨u, _, es, hend, hu, huw, responses_inner hes, hes,
      .inl ⟨hr, rfl, congrArg (· ++ [Event.rst]) htrace⟩⟩
  · obtain ⟨rd, d, hresp⟩ := respondLatched_eq u.envNext
    rw [hresp] at hend
    exact ⟨u, _, es, hend, hu, huw, responses_inner hes, hes,
      .inr ⟨hph, rfl, rfl, rd, congrArg (· ++ [Event.rsp u.st rd]) htrace⟩⟩

/-- An admitted command no reset cuts short ends with its response (R157). -/
theorem runCommand_responds {P : State → Prop}
    (hP : ∀ u v : State, u.ph ≠ .wait → P u → seqStep u = .next v → u.Continues v → P v)
    (hw : s.ph = .wait) (hb : boundaryStatus op ch addr s = statusOk) (hs : P (s.accept op ch addr data))
    (hnr : s.NoReset (s.accept op ch addr data).stepsLeft) :
    ∃ u t es rd, runCommand op ch addr data s = .next t ∧ P u ∧ u.ph = .respond ∧ t.en = u.en ∧
      t.selLines = u.selLines ∧ t.trace = s.trace ++ es ++ [.rsp u.st rd] ∧ responses es = [] := by
  obtain ⟨u, t, es, hrun, ⟨hnr', hu⟩, huw, hes, -, ⟨hr, -⟩ | ⟨hph, hen, hsel, rd, htrace⟩⟩ :=
    runCommand_course (P := fun u => u.NoReset u.stepsLeft ∧ P u)
      (fun u v huw ⟨hn, hu⟩ hstep hc => ⟨hc.inputs huw hn, hP u v huw hu hstep hc⟩) hw hb ⟨hnr, hs⟩
  · exact absurd hr (ne_true_of_eq_false (input_now (Q := fun e => e.reset = false) rfl huw hnr'))
  · exact ⟨u, t, es, rd, hrun, hu, hph, hen, hsel, htrace, hes⟩

end Course

/-- Settles O38: every command is such a run. -/
theorem everyCommandEndsInPhaseZero : Obligations.EveryCommandEndsInPhaseZero := by
  intro i s hi hw
  obtain ⟨op, ch, addr, data, hexec⟩ := exec_command hi
  rw [hexec]
  exact runCommand_ends hw

/-- Settles O39, by the two ways a command can leave the boundary. -/
theorem oneResponsePerCommand : Obligations.OneResponsePerCommand := by
  intro i s hi hw hnr
  obtain ⟨op, ch, addr, data, hexec⟩ := exec_command hi
  rw [hexec]
  by_cases hb : boundaryStatus op ch addr s = statusOk
  · have hnr' : s.NoReset (s.accept op ch addr data).stepsLeft :=
      fun e he => hnr e (List.take_subset_take_left s.env (stepsLeft_le _) he)
    obtain ⟨u, t, es, rd, hrun, -, -, -, -, htrace, hes⟩ :=
      runCommand_responds (P := fun _ => True) (data := data) (fun _ _ _ _ _ _ => trivial) hw hb trivial hnr'
    exact ⟨t, es ++ [.rsp u.st rd], hrun, by rw [htrace, List.append_assoc],
      by simp [responses_append, hes, responses]⟩
  · exact ⟨_, _, runCommand_refused hw hb, rfl, rfl⟩

/-! ### Aborted commands -/

/-- The release step, where no reset comes (R151, R154). -/
theorem seqStep_release {s t : State} (hph : s.ph = .release) (hs : seqStep s = .next t)
    (hc : s.Continues t) : t = (s.envNext.lineWriteEn false).goto .respond := by
  rcases seqStep_cases s with ⟨-, h⟩ | ⟨-, -, hp, -⟩ | ⟨-, h⟩
  · cases h.symm.trans hs
    exact absurd (State.takeReset_ph _) hc.ph_ne_wait
  · rw [hph] at hp
    exact absurd hp (by decide)
  · rw [h, phaseAction_release (s := s.envNext) hph] at hs
    exact (Host.Outcome.next.inj hs).symm

/-- After the response a command does not go on. -/
theorem State.Continues.not_respond {s t : State} (hc : s.Continues t) : s.ph ≠ .respond := by
  intro hph
  have hlater := hc.later
  rw [hph] at hlater
  exact absurd t.ph.number_le (Nat.not_le.2 hlater)

/-- An abort leads to the release, and the release deasserts the enable line (R154). -/
def State.AbortReleases (s : State) : Prop :=
  s.st = statusAborted → s.ph = .release ∨ s.ph = .respond ∧ s.en = false

theorem State.AbortReleases.step {u v : State} (h : u.AbortReleases) (hs : seqStep u = .next v)
    (hc : u.Continues v) : v.AbortReleases := by
  intro hst
  rcases hc.status with hsame | ⟨-, hph, -⟩
  · rcases h (hsame ▸ hst) with hph | ⟨hph, -⟩
    · rw [seqStep_release hph hs hc]
      exact .inr ⟨rfl, rfl⟩
    · exact absurd hph hc.not_respond
  · exact .inl hph

/-- No condition at the boundary has status 5 (R175). -/
theorem boundaryStatus_ne_aborted (op ch : Byte) (addr : Nat) (s : State) :
    boundaryStatus op ch addr s ≠ statusAborted := by
  rcases boundaryStatus_cases op ch addr s with h | h | ⟨h, -⟩ | h | h <;> rw [h] <;> decide

/-- Settles O41: the response carries the status of phase 9, and with status 5 the release came before
it. -/
theorem abortedCommandEndsIdle : Obligations.AbortedCommandEndsIdle := by
  intro i s t es rd hi hw hrun htrace hmem
  obtain ⟨op, ch, addr, data, hexec⟩ := exec_command hi
  rw [hexec] at hrun
  by_cases hb : boundaryStatus op ch addr s = statusOk
  · obtain ⟨u, t', fs, hrun', hu, -, -, hinner, ⟨-, hen, -⟩ | ⟨hph, hen, -, rd', htrace'⟩⟩ :=
      runCommand_course (P := State.AbortReleases) (fun _ _ _ hu hstep hc => hu.step hstep hc) hw hb
        (fun hst : statusOk = statusAborted => absurd hst (by decide)) <;>
      cases hrun'.symm.trans hrun
    · exact hen
    · rw [htrace', List.append_assoc] at htrace
      rw [← List.append_cancel_left htrace, List.mem_append, List.mem_singleton] at hmem
      have hst : u.st = statusAborted := by
        rcases hmem with hmem | hmem
        · exact absurd (hinner _ hmem) Bool.false_ne_true
        · exact (Event.rsp.inj hmem).1.symm
      rcases hu hst with hrel | ⟨-, hidle⟩
      · exact absurd (hph.symm.trans hrel) (by decide)
      · exact hen.trans hidle
  · cases (runCommand_refused hw hb).symm.trans hrun
    rw [← List.append_cancel_left htrace, List.mem_singleton] at hmem
    exact absurd (Event.rsp.inj hmem).1.symm (boundaryStatus_ne_aborted op ch addr s)

/-! ### Bus faults -/

/-- The status is OK and no abort is to come. -/
def State.Unaborted (s : State) : Prop := s.st = statusOk ∧ s.NoAbort s.stepsLeft

/-- Only an abort changes the status, whatever the bus does (R67). -/
theorem State.Unaborted.step {u v : State} (h : u.Unaborted) (hw : u.ph ≠ .wait) (hc : u.Continues v) :
    v.Unaborted := by
  obtain ⟨hst, hna⟩ := h
  refine ⟨?_, hc.inputs hw hna⟩
  rcases hc.status with hsame | ⟨-, -, ha⟩
  · exact hsame.trans hst
  · exact absurd ha (ne_true_of_eq_false (input_now (Q := fun e => e.abort = false) rfl hw hna))

/-- A WRITE or READ with neither abort nor reset answers status 0 and ends idle (R67). -/
theorem exec_transaction_ok {s : State} {i : Instr} {ch : Byte} {addr : Nat} {data : Byte}
    (hi : i = .write ch addr data ∨ i = .read ch addr data) (hw : s.ph = .wait)
    (hch : ch.toNat < s.cfg.nCh) (ha : addr < 2 ^ 24) (hm : s.MaySelect ch) (hnr : s.NoReset 9)
    (hna : s.NoAbort 9) :
    ∃ t es rd, exec i s = .next t ∧ t.trace = s.trace ++ es ++ [.rsp 0 rd] ∧ responses es = [] ∧
      t.en = false := by
  obtain ⟨op, hop, hexec⟩ := exec_transaction hi s
  have fewer {Q : EnvIn → Prop} (h : ∀ e ∈ s.env.take 9, Q e) :
      ∀ e ∈ s.env.take (s.accept op ch addr data).stepsLeft, Q e :=
    fun e he => h e (List.take_subset_take_left s.env (stepsLeft_le _) he)
  obtain ⟨u, t, es, rd, hrun, ⟨hst, -⟩, -, -, -, htrace, hes⟩ :=
    runCommand_responds (P := State.Unaborted) (fun _ _ huw hu _ hc => hu.step huw hc) hw
      (boundaryStatus_transaction hop hch ha hm) ⟨rfl, fewer hna⟩ (fewer hnr)
  obtain ⟨t', hrun', hen, -⟩ := (transactionEndsIdle s ch addr data i hw hi).1 hch ha hm
  cases hrun'.symm.trans (hexec.trans hrun)
  rw [hst] at htrace
  exact ⟨t, es, rd, hrun', htrace, hes, hen⟩

/-- Settles O42, for each of the two. -/
theorem busFaultIsNotReported : Obligations.BusFaultIsNotReported :=
  fun _ _ _ _ hw hch ha hm hnr hna =>
    ⟨exec_transaction_ok (.inl rfl) hw hch ha hm hnr hna, exec_transaction_ok (.inr rfl) hw hch ha hm hnr hna⟩

/-! ### What the lines show after a SELECT -/

/-- The course of a SELECT of channel `ch`, phase by phase: phases 1 and 2, then, if it is aborted, the
release, then the response (R111, R154). -/
def State.Selecting (ch : Byte) (s : State) : Prop :=
  s.opl = 0x04#8 ∧ s.ch = ch ∧
    match s.ph with
    | .setSel => s.st = statusOk
    | .enable => s.st = statusOk ∧ s.selLines = pat ch
    | .release => s.st = statusAborted
    | .respond => s.st = statusOk ∧ s.en = true ∧ s.selLines = pat ch ∨ s.st = statusAborted ∧ s.en = false
    | _ => False

theorem State.Selecting.step {ch : Byte} {u v : State} (h : u.Selecting ch) (hs : seqStep u = .next v)
    (hc : u.Continues v) : v.Selecting ch := by
  obtain ⟨ho, hch, hcourse⟩ := h
  rcases seqStep_cases u with ⟨-, hu⟩ | ⟨-, -, -, hu⟩ | ⟨-, hu⟩
  · cases hu.symm.trans hs
    exact absurd (State.takeReset_ph _) hc.ph_ne_wait
  · cases hu.symm.trans hs
    exact ⟨ho, hch, rfl⟩
  · cases hph : u.ph with
    | setSel =>
      rw [hph] at hcourse
      rw [phaseAction_setSel (s := u.envNext) hph] at hu
      cases hu.symm.trans hs
      exact ⟨ho, hch, hcourse, congrArg pat hch⟩
    | enable =>
      rw [hph] at hcourse
      obtain ⟨hst, hpat⟩ := hcourse
      have hnext : afterEnable u.opl = some .respond := by rw [ho]; rfl
      rw [phaseAction_enable (s := u.envNext) hph hnext] at hu
      cases hu.symm.trans hs
      exact ⟨ho, hch, .inl ⟨hst, rfl, hpat⟩⟩
    | release =>
      rw [hph] at hcourse
      rw [phaseAction_release (s := u.envNext) hph] at hu
      cases hu.symm.trans hs
      exact ⟨ho, hch, .inr ⟨hcourse, rfl⟩⟩
    | respond => exact absurd hph hc.not_respond
    | wait | opc | a2 | a1 | a0 | dat => rw [hph] at hcourse; exact hcourse.elim

/-- A SELECT of a valid channel that no reset cuts short ends with that channel asserted, or, aborted, with
none (R111, R175). -/
theorem execSelect_lines {s : State} {ch : Byte} {addr : Addr} {data : Byte} (hw : s.ph = .wait)
    (hch : ch.toNat < s.cfg.nCh) (hm : s.MaySelect ch) (hnr : s.NoReset 4) :
    ∃ t es st rd, exec (.select ch addr data) s = .next t ∧ t.trace = s.trace ++ es ++ [.rsp st rd] ∧
      responses es = [] ∧
      (st = 0 ∧ t.en = true ∧ t.selLines = pat ch ∧ t.sel = some (chanOf ch) ∨
        st = 5 ∧ t.en = false) := by
  obtain ⟨u, t, es, rd, hrun, ⟨-, -, hcourse⟩, hph, hen, hsel, htrace, hes⟩ :=
    runCommand_responds (P := State.Selecting ch) (data := data)
      (fun _ _ _ h hstep hc => h.step hstep hc) hw (boundaryStatus_select hch hm) ⟨rfl, rfl, rfl⟩ hnr
  rw [hph] at hcourse
  refine ⟨t, es, u.st, rd, hrun, htrace, hes, hcourse.imp ?_ ?_⟩
  · rintro ⟨hst, hen', hpat⟩
    have ht : t.en = true ∧ t.selLines = pat ch := ⟨hen.trans hen', hsel.trans hpat⟩
    exact ⟨hst, ht.1, ht.2, by rw [State.sel, ht.1, ht.2, decoder_true, lineCode_pat]⟩
  · rintro ⟨hst, hen'⟩
    exact ⟨hst, hen.trans hen'⟩

/-- Settles O58: the course of a SELECT, and phase 0 with no word it admits. -/
theorem acceptedSelectKeepsItsChannel : Obligations.AcceptedSelectKeepsItsChannel := by
  refine ⟨fun s ch addr data hw hch hm hnr => execSelect_lines hw hch hm hnr, fun s hw hr hrefused => ?_⟩
  obtain ⟨t, hs, hstep⟩ := stepIsARunOfSequencerSteps s hw
  have ht : t.en = s.en ∧ t.selLines = s.selLines ∧ t.ph = .wait := by
    cases hs.symm.trans (seqStep_wait hw hr)
    rcases acceptPhase_cases s.envNext with ⟨-, h⟩ | ⟨cw, rest, hport, ⟨hb, -⟩ | ⟨-, h⟩⟩
    · rw [h]
      exact ⟨rfl, rfl, hw⟩
    · exact absurd hb (hrefused cw rest hport)
    · rw [h]
      exact ⟨rfl, rfl, hw⟩
  exact ⟨t, by rw [hstep, runPhases_wait ht.2.2], ht⟩

end Sys2Proof.Machine
end

section
/-!
Statements of every step. What a step of the sequencer leaves alone (the parameters, the direct way from
one output to another, memory outside the transfer phases) and the statuses it answers, by the moves of
the sequencer; a step of the machine is a run of those.
-/

namespace Sys2Proof.Machine

/-- What a step of the sequencer does: a reset, phase 0, a step that goes on, or the response. -/
theorem seqStep_outcome {s t : State} (hs : seqStep s = .next t) :
    (s.envNow.reset = true ∧ t = s.envNext.takeReset) ∨ (s.ph = .wait ∧ t = s.envNext.acceptPhase) ∨
      s.Continues t ∨ (s.ph = .respond ∧ t = s.envNext.respondLatched.endCommand) := by
  by_cases hw : s.ph = .wait
  · cases hr : s.envNow.reset with
    | true => exact .inl ⟨rfl, (Host.Outcome.next.inj ((seqStep_reset hr).symm.trans hs)).symm⟩
    | false => exact .inr (.inl ⟨hw, (Host.Outcome.next.inj ((seqStep_wait hw hr).symm.trans hs)).symm⟩)
  · exact ((seqStep_move hs).inside hw).imp_right .inr

/-! ### Never stopping -/

/-- Settles O47: under the invariant every phase has its row. -/
theorem stepNeverStops : Obligations.StepNeverStops := by
  intro s h
  obtain ⟨t, hs⟩ := seqStep_next h.hasRow
  refine ⟨?_, t, hs⟩
  by_cases hw : s.ph = .wait
  · obtain ⟨u, hu, hstep⟩ := stepIsARunOfSequencerSteps s hw
    obtain ⟨v, hrun, -⟩ := runPhases_ends ((seqStep_move hu).hasRow h.hasRow) (stepsLeft_le u)
    exact ⟨v, hstep.trans hrun⟩
  · exact ⟨t, (step_unfetched (fetch_busy hw)).trans hs⟩

/-! ### Parameters -/

theorem seqStep_cfg {s t : State} (hs : seqStep s = .next t) : t.cfg = s.cfg := by
  rcases seqStep_outcome hs with ⟨-, rfl⟩ | ⟨-, rfl⟩ | hc | ⟨-, rfl⟩
  · rfl
  · rcases acceptPhase_cases s.envNext with ⟨-, h⟩ | ⟨cw, rest, -, ⟨-, h⟩ | ⟨-, h⟩⟩ <;> rw [h] <;> rfl
  · exact hc.cfg
  · obtain ⟨rd, d, h⟩ := respondLatched_eq s.envNext
    rw [h]
    rfl

/-- Settles O48. -/
theorem parametersNeverChange : Obligations.ParametersNeverChange :=
  ⟨fun s _ => step_keeps (P := fun u => u.cfg = s.cfg) (fun _ _ hu hs => (seqStep_cfg hs).trans hu) rfl,
    fun _ _ => seqStep_cfg⟩

/-! ### Statuses -/

/-- The codes that appear at the command port (R172, R177). -/
def PortStatus (st : Byte) : Prop := st = 0 ∨ st = 1 ∨ st = 3 ∨ st = 4 ∨ st = 5

/-- A command word carries an address of 24 bits, so InvalidAddress is not among the answers to it
(R172). -/
theorem boundaryStatus_word (cw : CommandWord) (s : State) :
    PortStatus (boundaryStatus (cwOp cw) (cwCh cw) (cwAddr cw).toNat s) := by
  have ha := (cwAddr cw).isLt
  rcases boundaryStatus_cases (cwOp cw) (cwCh cw) (cwAddr cw).toNat s with h | h | ⟨-, h⟩ | h | h
  · exact .inl h
  · exact .inr (.inl h)
  · omega
  · exact .inr (.inr (.inl h))
  · exact .inr (.inr (.inr (.inl h)))

/-- A step of the sequencer answers with the status of the boundary or with the one latched (R157). -/
theorem Coherent.seqStep_answers {s t : State} (h : Coherent s) (hs : seqStep s = .next t) :
    ∃ es, t.trace = s.trace ++ es ∧ ∀ st rd, Event.rsp st rd ∈ es → PortStatus st := by
  rcases seqStep_outcome hs with ⟨-, rfl⟩ | ⟨-, rfl⟩ | hc | ⟨-, rfl⟩
  · exact ⟨_, rfl, by simp⟩
  · rcases acceptPhase_cases s.envNext with ⟨-, h⟩ | ⟨cw, rest, -, ⟨-, h⟩ | ⟨-, h⟩⟩ <;> rw [h]
    · exact ⟨[], (List.append_nil _).symm, by simp⟩
    · exact ⟨[.cmd cw], rfl, by simp⟩
    · refine ⟨_, List.append_assoc .., fun st rd hmem => ?_⟩
      simp only [List.cons_append, List.nil_append, List.mem_cons, List.not_mem_nil, or_false,
        reduceCtorEq, false_or, Event.rsp.injEq] at hmem
      exact hmem.1 ▸ boundaryStatus_word cw s.envNext
  · obtain ⟨e, ht, he⟩ := hc.emits
    refine ⟨[e], ht, fun st rd hmem => ?_⟩
    rw [← List.mem_singleton.1 hmem] at he
    exact absurd he Bool.false_ne_true
  · obtain ⟨rd, d, hresp⟩ := respondLatched_eq s.envNext
    rw [hresp]
    refine ⟨[.rsp s.st rd], rfl, fun st rd' hmem => ?_⟩
    rw [(Event.rsp.inj (List.mem_singleton.1 hmem)).1]
    exact h.status.imp_right fun h5 => .inr (.inr (.inr h5))

/-- From `s` on only such statuses have been answered, and the invariant holds. -/
structure State.AnswersSince (s u : State) : Prop where
  coherent : Coherent u
  answers : ∃ es, u.trace = s.trace ++ es ∧ ∀ st rd, Event.rsp st rd ∈ es → PortStatus st

theorem State.AnswersSince.step {s u v : State} (h : s.AnswersSince u) (hs : seqStep u = .next v) :
    s.AnswersSince v := by
  obtain ⟨hu, es, hes, hall⟩ := h
  obtain ⟨fs, hfs, hall'⟩ := hu.seqStep_answers hs
  exact ⟨sequencerStepKeepsInvariant u v hu hs, es ++ fs, by rw [hfs, hes, List.append_assoc],
    fun st rd hmem => (List.mem_append.1 hmem).elim (hall st rd) (hall' st rd)⟩

/-- Settles O43: a step is a run of steps of the sequencer. -/
theorem statusCodesAtThePort : Obligations.StatusCodesAtThePort := by
  intro s t es st rd hcoh hstep htrace hmem
  have hstart : s.AnswersSince s := ⟨hcoh, [], (List.append_nil _).symm, by simp⟩
  obtain ⟨-, fs, hfs, hall⟩ := step_keeps (fun _ _ hu hs => hu.step hs) hstart hstep
  exact hall st rd (List.append_cancel_left (hfs.symm.trans htrace) ▸ hmem)

/-! ### Outputs -/

/-- A row of the table leaves the asserted output, or moves from none or to none (R115). -/
theorem Coherent.phaseRow_sel {s t : State} {b : Bool} (h : Coherent s) (hrow : s.PhaseRow b t)
    (hne : t.sel ≠ s.sel) : s.sel = none ∨ t.sel = none := by
  have of_disabled (hen : s.en = false) : s.sel = none ∨ t.sel = none :=
    .inl (by rw [State.sel, hen, decoder_false])
  cases hrow with
  | @takes cw rest =>
    by_cases hb : boundaryStatus (cwOp cw) (cwCh cw) (cwAddr cw).toNat (s.takeWord cw rest) = statusOk
    · rw [boundary_admitted hb] at hne
      exact absurd rfl hne
    · rw [boundary_refused hb] at hne
      exact absurd rfl hne
  | setSel hph =>
    cases hen : s.en with
    | false => exact of_disabled hen
    | true =>
      obtain ⟨-, -, -, hm⟩ := h.at_setSel hph
      have hpat : pat s.ch = s.selLines := pat_of_code (hm hen)
      exact absurd (congrArg (decoder s.en) hpat) hne
  | enable =>
    cases hen : s.en with
    | false => exact of_disabled hen
    | true => exact absurd (by rw [State.sel, State.sel, hen]; rfl) hne
  | release => exact .inr rfl
  | respond =>
    obtain ⟨rd, d, hresp⟩ := respondLatched_eq s
    rw [hresp] at hne
    exact absurd rfl hne
  | waits | header | store | load => exact absurd rfl hne

/-- Settles O50: the way between two outputs, by the moves of the sequencer; the device, by the invariant. -/
theorem outputsNeverSwitchDirectly : Obligations.OutputsNeverSwitchDirectly := by
  intro s t hcoh hs
  refine ⟨fun hne => ?_, fun k hk => ?_⟩
  · cases seqStep_move hs with
    | reset => exact .inr rfl
    | abort => exact absurd rfl hne
    | row _ hrow => exact hcoh.envNext.phaseRow_sel hrow hne
  · have ht := sequencerStepKeepsInvariant s t hcoh hs
    cases hen : t.en with
    | false => simp [State.sel, hen] at hk
    | true =>
      rw [State.sel, hen, decoder_true, Option.some.injEq] at hk
      exact hk ▸ ht.selected_valid hen

/-! ### Outside the transfer phases -/

theorem State.PhaseRow.outside {s t : State} {b : Bool} (hp : s.ph.transfers = false)
    (hrow : s.PhaseRow b t) :
    t.mem = s.mem ∧ ∃ es, t.trace = s.trace ++ es ∧ ∀ tx rx, Event.xf tx rx ∉ es := by
  cases hrow with
  | waits => exact ⟨rfl, [], (List.append_nil _).symm, by simp⟩
  | @takes cw rest =>
    by_cases hb : boundaryStatus (cwOp cw) (cwCh cw) (cwAddr cw).toNat (s.takeWord cw rest) = statusOk
    · rw [boundary_admitted hb]
      exact ⟨rfl, _, rfl, by simp⟩
    · rw [boundary_refused hb]
      exact ⟨rfl, _, List.append_assoc .., by simp⟩
  | setSel | enable | release => exact ⟨rfl, _, rfl, by simp⟩
  | header hsend => exact absurd (headerByte_transfers hsend).1 (ne_true_of_eq_false hp)
  | store hph | load hph => rw [hph] at hp; exact absurd hp (by decide)
  | respond =>
    obtain ⟨rd, d, hresp⟩ := respondLatched_eq s
    rw [hresp]
    exact ⟨rfl, [.rsp s.st rd], rfl, by simp⟩

/-- Outside the transfer phases nothing is transferred, and memory changes only where a WRITE is cut short
(R72, R130). -/
theorem State.Move.outside {s t : State} (hp : s.ph.transfers = false) (hmove : s.Move t) :
    (t.mem = s.mem ∨ t.mem = s.envNext.interruptedMem) ∧
      ∃ es, t.trace = s.trace ++ es ∧ ∀ tx rx, Event.xf tx rx ∉ es := by
  cases hmove with
  | reset => exact ⟨.inr rfl, _, rfl, by simp⟩
  | abort => exact ⟨.inr rfl, _, rfl, by simp⟩
  | row _ hrow => exact (State.PhaseRow.outside (s := s.envNext) hp hrow).imp_left .inl

/-- Where no WRITE is in progress there is none to cut short (R72). -/
theorem interruptedMem_of_idle {s : State} (h : s.writeInProgress = false) : s.interruptedMem = s.mem := by
  simp [State.interruptedMem, h]

/-- A WRITE is in progress only with its OP latched and behind its enable phase (R72). -/
theorem writeInProgress_false {s : State} (h : s.opl ≠ 0x02#8 ∨ s.ph.number.toNat < 3) :
    s.writeInProgress = false := by
  rcases h with h | h
  · simp [State.writeInProgress, h]
  · have he : s.ph.enabled = false := decide_eq_false (Nat.not_le.2 h)
    simp [State.writeInProgress, he]

/-- Settles O51: outside the transfer phases there is no transfer, inside them the invariant holds the
lines. -/
theorem transfersOnlyWhileSelected : Obligations.TransfersOnlyWhileSelected := by
  intro s t es tx rx hcoh hs htrace hmem
  cases hp : s.ph.transfers with
  | false =>
    obtain ⟨-, fs, hfs, hnone⟩ := (seqStep_move hs).outside hp
    exact absurd (List.append_cancel_left (hfs.symm.trans htrace) ▸ hmem) (hnone tx rx)
  | true =>
    obtain ⟨ho, -, hch, hen, hpat⟩ := hcoh.at_transfer hp
    obtain ⟨h3, h7⟩ := of_decide_eq_true hp
    refine ⟨by rw [State.sel, hen, hpat, decoder_true, lineCode_pat], hch,
      by rw [State.ownsBus, hen, Bool.or_true], h3, h7, fun hph => ?_⟩
    have first {e : Event} (ht : t.trace = s.trace ++ [e]) : Event.xf tx rx = e :=
      List.mem_singleton.1 (List.append_cancel_left (htrace.symm.trans ht) ▸ hmem)
    rcases seqStep_cases s with ⟨-, h⟩ | ⟨-, -, -, h⟩ | ⟨-, h⟩
    · cases h.symm.trans hs
      cases first rfl
    · cases h.symm.trans hs
      cases first rfl
    · rw [phaseAction_opc (s := s.envNext) hph] at h
      cases h.symm.trans hs
      obtain ⟨rfl, -⟩ := Event.xf.inj (first rfl)
      exact ho

/-! ### Memory at rest and under the control commands -/

/-- Settles O57: at rest no WRITE is in progress, so a reset cuts none short. -/
theorem restChangesNoMemory : Obligations.RestChangesNoMemory := by
  intro s t hw hport hstep
  rw [step_unfetched (fetch_noWord hport)] at hstep
  obtain ⟨hmem, -⟩ := (seqStep_move hstep).outside (by rw [hw]; rfl)
  refine hmem.elim id fun h => h.trans (interruptedMem_of_idle (writeInProgress_false (.inr ?_)))
  rw [State.envNext_ph, hw]
  decide

/-- SELECT and IDLE have no transfer phase and write no byte (R72, R151). -/
structure State.Controls (s u : State) : Prop where
  opl : u.opl = 0x00#8 ∨ u.opl = 0x04#8
  row : u.HasRow
  mem : u.mem = s.mem
  events : ∃ es, u.trace = s.trace ++ es ∧ ∀ tx rx, Event.xf tx rx ∉ es

theorem State.Controls.step {s u v : State} (h : s.Controls u) (hw : u.ph ≠ .wait)
    (hs : seqStep u = .next v) : s.Controls v := by
  have ho2 : u.opl ≠ 0x02#8 := by rcases h.opl with ho | ho <;> rw [ho] <;> decide
  have hp : u.ph.transfers = false := by
    refine eq_false_of_ne_true fun hp => ?_
    rcases h.row.transfer hp with ho | ho <;> have := h.opl <;> rw [ho] at this <;>
      exact absurd this (by decide)
  obtain ⟨hmem, es, ht, hes⟩ := (seqStep_move hs).outside hp
  obtain ⟨-, hopl, -⟩ := (seqStep_move hs).latches hw
  obtain ⟨fs, hu, hfs⟩ := h.events
  refine ⟨hopl ▸ h.opl, (seqStep_move hs).hasRow h.row, ?_, fs ++ es, by rw [ht, hu, List.append_assoc],
    fun tx rx hx => (List.mem_append.1 hx).elim (hfs tx rx) (hes tx rx)⟩
  refine (hmem.elim id fun hi => ?_).trans h.mem
  exact hi.trans (interruptedMem_of_idle (s := u.envNext) (writeInProgress_false (.inl ho2)))

/-- Settles O56: an admitted SELECT or IDLE keeps to such states, and a refused word changes nothing. -/
theorem controlCommandsTouchNoMemory : Obligations.ControlCommandsTouchNoMemory := by
  intro s t i ch addr data hw hi hrun
  obtain ⟨op, hop, hexec⟩ : ∃ op, (op = 0x04#8 ∨ op = 0x00#8 ∨ op = 0x01#8 ∨ op = 0x05#8) ∧
      exec i s = runCommand op ch addr.toNat data s := by
    rcases hi with rfl | rfl | rfl | rfl <;> exact ⟨_, by decide, rfl⟩
  rw [hexec] at hrun
  by_cases hb : boundaryStatus op ch addr.toNat s = statusOk
  · rw [runCommand_admitted hw hb] at hrun
    have hok := boundaryStatus_admits hb
    have hop' : op = 0x00#8 ∨ op = 0x04#8 := by
      rcases hop with rfl | rfl | rfl | rfl
      · exact .inr rfl
      · exact .inl rfl
      all_goals exact absurd hok (by simp)
    have hstart : s.Controls (s.accept op ch addr.toNat data) :=
      ⟨hop', hasRow_accept hb, rfl, [], (List.append_nil _).symm, by simp⟩
    obtain ⟨-, -, hmem, hes⟩ := runPhases_keeps (fun _ _ huw hu hs => hu.step huw hs) hstart hrun
    exact ⟨hmem, hes⟩
  · rw [runCommand_refused hw hb] at hrun
    cases hrun
    exact ⟨rfl, _, rfl, by simp⟩

end Sys2Proof.Machine
end

section
/-!
Memory over whole commands. On a fault-free bus the device of a WRITE or READ has received, in each
transfer phase, exactly the bytes of the frame sent so far; so the fifth byte completes the command's own
frame, and no step stores anywhere but where the command says (R58, R68, R72).
-/

namespace Sys2Proof.Machine

/-! ### Single bytes and the canonical form -/

/-- Settles O11, by the two laws of a store. -/
theorem storeThenLoadReturnsByte : Obligations.StoreThenLoadReturnsByte := by
  intro m k j a b v
  split
  next h => rw [h.1, h.2, Memory.write_read_same]
  next h => exact Memory.write_read_elsewhere m (fun e => h (Prod.mk.inj e)) v

/-- Every move of the sequencer keeps the canonical form of memory. -/
theorem State.Move.mem_wf {s t : State} (h : s.mem.wf) (hmove : s.Move t) : t.mem.wf := by
  cases hmove with
  | reset => exact interruptedMem_wf (s := s.envNext) h
  | abort => exact interruptedMem_wf (s := s.envNext) h
  | row _ hrow =>
    cases hp : s.envNext.ph.transfers with
    | false =>
      obtain ⟨hmem, -⟩ := hrow.outside hp
      rw [hmem]
      exact h
    | true =>
      cases hrow with
      | header | store | load => exact busReply_wf _ _ h
      | waits hph | takes hph | setSel hph | enable hph | release hph | respond hph =>
        rw [hph] at hp
        exact absurd hp (by decide)

theorem storeReply_wf {s : State} (h : s.mem.wf) (a : Addr) (tx : Byte) (k : Chan) :
    (storeReply a tx k s).mem.wf := by
  simp only [storeReply]
  split
  · exact Memory.write_wf h k a tx
  · exact Memory.writeCells_wf h k _

/-- Every command keeps the canonical form of memory. -/
theorem runCommand_mem_wf {s t : State} {op ch : Byte} {addr : Nat} {data : Byte} (h : s.mem.wf)
    (hrun : runCommand op ch addr data s = .next t) : t.mem.wf := by
  unfold runCommand at hrun
  split at hrun
  · have hb : (s.boundary op ch addr data).mem = s.mem := by
      unfold State.boundary
      split <;> rfl
    exact runPhases_keeps (P := fun u => u.mem.wf) (fun _ _ _ hu hs => (seqStep_move hs).mem_wf hu)
      (by rw [hb]; exact h) hrun
  · cases hrun
    exact h

/-- Settles O12, for the commands and the two frames. -/
theorem everyInstructionKeepsMemoryCanonical : Obligations.EveryInstructionKeepsMemoryCanonical := by
  intro i s t h hrun
  cases i with
  | writeFrame addr data =>
    cases hrun
    cases hd : s.device with
    | none => exact h
    | some k => exact storeReply_wf h addr data k
  | readFrame addr dummy =>
    cases hrun
    cases hd : s.device with
    | none => exact h
    | some k => exact h
  | idle ch addr data => exact runCommand_mem_wf h hrun
  | write ch addr data => exact runCommand_mem_wf h hrun
  | read ch addr data => exact runCommand_mem_wf h hrun
  | select ch addr data => exact runCommand_mem_wf h hrun
  | reserved01 ch addr data => exact runCommand_mem_wf h hrun
  | reserved05 ch addr data => exact runCommand_mem_wf h hrun

/-! ### The frame sent so far -/

/-- The bytes of the frame sent before a transfer phase (R131, R132). -/
def State.sentBytes (s : State) : List Byte :=
  match s.ph with
  | .a2 => [s.opl]
  | .a1 => [s.opl, addrByte2 s.addr]
  | .a0 => [s.opl, addrByte2 s.addr, addrByte1 s.addr]
  | .dat => [s.opl, addrByte2 s.addr, addrByte1 s.addr, addrByte0 s.addr]
  | _ => []

/-- Before the fifth byte the opcode and the address have been sent (R83). -/
theorem sentBytes_dat {s : State} (hph : s.ph = .dat) :
    s.sentBytes = [s.opl, addrByte2 s.addr, addrByte1 s.addr, addrByte0 s.addr] := by
  rw [State.sentBytes, hph]

/-- A header byte is one of the first four, and is the next one of the frame (R83). -/
theorem headerByte_sentBytes {s t : State} {tx : Byte} {p : Phase} (h : s.headerByte = some (tx, p))
    (hph : t.ph = p) (hopl : t.opl = s.opl) (haddr : t.addr = s.addr) :
    s.sentBytes.length ≤ 3 ∧ t.sentBytes = s.sentBytes ++ [tx] := by
  cases hs : s.ph <;> simp [State.headerByte, hs] at h <;> obtain ⟨rfl, rfl⟩ := h <;>
    simp [State.sentBytes, hs, hph, hopl, haddr]

/-- A command on a fault-free bus, whose device has received what the command has sent. -/
structure State.Transacts (s : State) : Prop where
  coherent : Coherent s
  faultFree : s.FaultFree
  received : s.ph.transfers = true → s.frameOf (chanOf s.ch) = s.sentBytes

theorem State.Transacts.envNext {s : State} (h : s.Transacts) : s.envNext.Transacts :=
  ⟨h.coherent.envNext, fun e he => h.faultFree e (List.mem_of_mem_tail he), h.received⟩

theorem State.FaultFree.now {s : State} (h : s.FaultFree) : s.envNow.busFault = false := by
  unfold State.envNow
  cases henv : s.env with
  | nil => rfl
  | cons e es => exact h e (by rw [henv]; exact List.mem_cons_self)

/-- A header byte reaches the command's device, which answers a free byte (R68). -/
theorem State.Transacts.header {s : State} {tx : Byte} {p : Phase} (h : s.Transacts)
    (hsend : s.headerByte = some (tx, p)) :
    s.xfer false tx = s.exchange tx (earlyReply (chanOf s.ch) tx s) := by
  obtain ⟨hp, -, -⟩ := headerByte_transfers hsend
  obtain ⟨hlen, -⟩ := headerByte_sentBytes (t := s.goto p) hsend rfl rfl rfl
  exact xfer_early (h.coherent.device_transfer hp) (by rwa [h.received hp]) tx

/-- The device goes on holding the bytes sent. -/
theorem State.Transacts.step {s t : State} (h : s.Transacts) (hw : s.ph ≠ .wait) (hmove : s.Move t) :
    t.Transacts := by
  have hcoh := h.coherent.move hmove
  obtain ⟨-, -, -, -, henv⟩ := hmove.latches hw
  refine ⟨hcoh, fun e he => h.faultFree e (List.mem_of_mem_tail (henv ▸ he)), fun hp => ?_⟩
  cases hmove with
  | reset | abort => exact absurd hp Bool.false_ne_true
  | row _ hrow =>
    rw [h.faultFree.now] at hrow
    have h' := h.envNext
    cases hrow with
    | waits hph | takes hph => exact absurd hph hw
    | setSel | store | load | release | respond => exact absurd hp Bool.false_ne_true
    | enable _ hnext =>
      rcases afterEnable_cases hnext with ⟨-, rfl⟩ | ⟨-, rfl⟩
      · exact absurd hp Bool.false_ne_true
      · rw [State.frameOf]
        simp only [hcoh.rest_empty rfl, noFrames_get]
        rfl
    | header hsend =>
      obtain ⟨-, hsent⟩ := headerByte_sentBytes (t := (s.envNext.xfer false _).goto _) hsend rfl rfl rfl
      obtain ⟨hp, -, -⟩ := headerByte_transfers hsend
      rw [hsent, ← h'.received hp, h'.header hsend]
      simp [State.frameOf, State.received, earlyReply]

/-! ### What a step may store -/

/-- What becomes of memory when the byte of a WRITE is stored or left open: in capacity the addressed byte
changes, at or above it locations of the addressed device (R51, R58, R72). -/
def Stores (cfg : Config) (ch : Byte) (addr : Addr) (m m' : Memory) : Prop :=
  ∃ v cells, m' =
    if inCapacity cfg (chanOf ch) addr then m.write (chanOf ch) addr v else m.writeCells (chanOf ch) cells

theorem Stores.read_other {cfg : Config} {ch : Byte} {addr : Addr} {m m' : Memory}
    (h : Stores cfg ch addr m m') {j : Chan} (hj : j ≠ chanOf ch) (a : Addr) : m'.read j a = m.read j a := by
  obtain ⟨v, cells, rfl⟩ := h
  split
  · exact Memory.write_read_elsewhere m (fun e => hj (congrArg Prod.fst e)) v
  · exact Memory.writeCells_read_other m hj cells a

theorem Stores.read_elsewhere {cfg : Config} {ch : Byte} {addr : Addr} {m m' : Memory}
    (h : Stores cfg ch addr m m') (hcap : addr.toNat < capOf cfg (chanOf ch)) {j : Chan} {a : Addr}
    (hne : (j, a) ≠ (chanOf ch, addr)) : m'.read j a = m.read j a := by
  obtain ⟨v, cells, rfl⟩ := h
  rw [inCapacity, if_pos (decide_eq_true hcap), Memory.write_read_elsewhere m hne v]

/-- Only a WRITE is interrupted, and its own byte is left open (R72). -/
theorem interruptedMem_stores (s : State) :
    s.interruptedMem = s.mem ∨ s.opl = 0x02#8 ∧ Stores s.cfg s.ch s.addr s.mem s.interruptedMem := by
  cases hw : s.writeInProgress with
  | false => exact .inl (interruptedMem_of_idle hw)
  | true =>
    refine .inr ⟨?_, _, _, if_pos hw⟩
    by_contra ho
    rw [writeInProgress_false (.inl ho)] at hw
    exact Bool.false_ne_true hw

/-- A step of a WRITE or READ leaves memory as it was or stores the byte of the WRITE. -/
theorem State.Transacts.stores {s t : State} (h : s.Transacts) (hmove : s.Move t) :
    t.mem = s.mem ∨ s.opl = 0x02#8 ∧ Stores s.cfg s.ch s.addr s.mem t.mem := by
  cases hmove with
  | reset => exact interruptedMem_stores s.envNext
  | abort => exact interruptedMem_stores s.envNext
  | row _ hrow =>
    rw [h.faultFree.now] at hrow
    have h' := h.envNext
    cases hp : s.envNext.ph.transfers with
    | false => exact .inl (hrow.outside hp).1
    | true =>
      have hdev := h'.coherent.device_transfer hp
      have hrec := h'.received hp
      cases hrow with
      | waits hph | takes hph | setSel hph | enable hph | release hph | respond hph =>
        rw [hph] at hp
        exact absurd hp (by decide)
      | header hsend =>
        rw [h'.header hsend]
        exact .inl rfl
      | store hph ho =>
        rw [sentBytes_dat hph, ho] at hrec
        rw [xfer_writeFrame hdev hrec]
        exact .inr ⟨ho, _, _, rfl⟩
      | load hph ho =>
        rw [sentBytes_dat hph, ho] at hrec
        rw [xfer_readFrame hdev hrec]
        exact .inl rfl

/-! ### Whole commands -/

/-- A command running with given operands, in whose memory `Q` holds. -/
structure State.RunsWith (cfg : Config) (op ch : Byte) (addr : Addr) (Q : Memory → Prop) (s : State) :
    Prop where
  transacts : s.Transacts
  cfg : s.cfg = cfg
  opl : s.opl = op
  ch : s.ch = ch
  addr : s.addr = addr
  mem : Q s.mem

/-- What the stores of a WRITE keep, its steps keep. -/
theorem State.RunsWith.step {cfg : Config} {op ch : Byte} {addr : Addr} {Q : Memory → Prop} {s t : State}
    (hQ : op = 0x02#8 → ∀ m m', Q m → Stores cfg ch addr m m' → Q m')
    (h : s.RunsWith cfg op ch addr Q) (hw : s.ph ≠ .wait) (hmove : s.Move t) :
    t.RunsWith cfg op ch addr Q := by
  obtain ⟨htr, rfl, rfl, rfl, rfl, hmem⟩ := h
  obtain ⟨hcfg, hopl, hch, haddr, -⟩ := hmove.latches hw
  refine ⟨htr.step hw hmove, hcfg, hopl, hch, haddr, ?_⟩
  rcases htr.stores hmove with hsame | ⟨ho, hst⟩
  · rwa [hsame]
  · exact hQ ho s.mem t.mem hmem hst

/-- An admitted command starts with its operands latched and no byte sent (R152). -/
theorem accept_transacts {s : State} {op ch : Byte} {addr : Nat} {data : Byte} (h : Coherent s)
    (hf : s.FaultFree) (hw : s.ph = .wait) (hb : boundaryStatus op ch addr s = statusOk) :
    (s.accept op ch addr data).Transacts := by
  refine ⟨boundary_admitted (data := data) hb ▸ h.boundary hw op ch addr data, hf, fun hp => ?_⟩
  rw [State.accept_ph] at hp
  split at hp <;> exact absurd hp (by decide)

/-- What the stores of a WRITE keep, a WRITE keeps, and a READ keeps everything: completed, refused,
aborted or reset. -/
theorem runCommand_keeps_memory {Q : Memory → Prop} {s t : State} {op ch : Byte} {addr : Nat} {data : Byte}
    (hcoh : Coherent s) (hf : s.FaultFree)
    (hQ : op = 0x02#8 → ∀ m m', Q m → Stores s.cfg ch (BitVec.ofNat 24 addr) m m' → Q m') (hs : Q s.mem)
    (hrun : runCommand op ch addr data s = .next t) : Q t.mem := by
  by_cases hw : s.ph = .wait
  · by_cases hb : boundaryStatus op ch addr s = statusOk
    · rw [runCommand_admitted hw hb] at hrun
      have hstart : (s.accept op ch addr data).RunsWith s.cfg op ch (BitVec.ofNat 24 addr) Q :=
        ⟨accept_transacts hcoh hf hw hb, rfl, rfl, rfl, rfl, hs⟩
      exact (runPhases_keeps (fun _ _ huw hu hstep => hu.step hQ huw (seqStep_move hstep)) hstart hrun).mem
    · cases (runCommand_refused hw hb).symm.trans hrun
      exact hs
  · rw [runCommand, if_neg hw] at hrun
    cases hrun
    exact hs

/-- Settles O53: every store of a WRITE is at its own device. -/
theorem writeLeavesOtherChannels : Obligations.WriteLeavesOtherChannels := by
  intro s t ch addr data hcoh hf hrun j a hj
  exact runCommand_keeps_memory (Q := fun m => m.read j a = s.dev j a) hcoh hf
    (fun _ _ _ hm hst => (hst.read_other hj a).trans hm) rfl hrun

/-- Settles O54: in capacity every store of a WRITE is at the addressed byte. -/
theorem writeChangesAtMostOneByte : Obligations.WriteChangesAtMostOneByte := by
  intro s t ch addr data hcoh hf hcap hrun j a hne
  refine runCommand_keeps_memory (Q := fun m => m.read j a = s.dev j a) hcoh hf
    (fun _ _ _ hm hst => ?_) rfl hrun
  rw [BitVec.ofNat_toNat, BitVec.setWidth_eq] at hst
  exact (hst.read_elsewhere hcap hne).trans hm

/-- Settles O55: a READ has no store. -/
theorem readChangesNoMemory : Obligations.ReadChangesNoMemory := by
  intro s t ch addr data hcoh hf hrun
  exact runCommand_keeps_memory (Q := fun m => m = s.mem) hcoh hf
    (fun ho => absurd ho (by decide)) rfl hrun

end Sys2Proof.Machine
end

section
/-!
The two word formats. A word is put together from its fields and taken apart into them again, so decoding
and encoding are inverse (R81, R89), and the decoder rejects by the OP field or the opcode byte alone
(R82, R94).
-/

namespace Sys2Proof.Machine

/-! ### Fields of a command word -/

section Fields

variable (op ch data : Byte) (addr : Addr)

@[simp] theorem cwOp_commandWord : cwOp (commandWord op ch addr data) = op := by
  unfold cwOp commandWord
  ext i hi
  simp only [BitVec.getElem_extractLsb', BitVec.getLsbD_append]
  grind

@[simp] theorem cwCh_commandWord : cwCh (commandWord op ch addr data) = ch := by
  unfold cwCh commandWord
  ext i hi
  simp only [BitVec.getElem_extractLsb', BitVec.getLsbD_append]
  grind

@[simp] theorem cwAddr_commandWord : cwAddr (commandWord op ch addr data) = addr := by
  unfold cwAddr commandWord
  ext i hi
  simp only [BitVec.getElem_extractLsb', BitVec.getLsbD_append]
  grind

@[simp] theorem cwData_commandWord : cwData (commandWord op ch addr data) = data := by
  unfold cwData commandWord
  ext i hi
  simp only [BitVec.getElem_extractLsb', BitVec.getLsbD_append]
  grind

end Fields

/-- A command word is its four fields (R89). -/
theorem commandWord_fields (cw : CommandWord) :
    commandWord (cwOp cw) (cwCh cw) (cwAddr cw) (cwData cw) = cw := by
  unfold commandWord cwOp cwCh cwAddr cwData
  ext i hi
  simp only [BitVec.getElem_append, BitVec.getElem_extractLsb']
  grind

/-- A frame is its three fields (R81). -/
theorem frameWord_fields (f : FrameWord) : frameWord (frameOpc f) (frameAddr f) (frameLast f) = f := by
  unfold frameWord frameOpc frameAddr frameLast
  ext i hi
  simp only [BitVec.getElem_append, BitVec.getElem_extractLsb']
  grind

/-! ### Decoding and encoding -/

/-- Settles O1, row by row of the opcode table. -/
theorem decodeOfEncodeIsIdentity : Obligations.DecodeOfEncodeIsIdentity := by
  intro cfg i hi
  have fits {addr : Nat} (h : addr < 2 ^ 24) : (BitVec.ofNat 24 addr).toNat = addr := by
    rw [BitVec.toNat_ofNat, Nat.mod_eq_of_lt h]
  cases i with
  | write ch addr data | read ch addr data =>
    have ha : addr < 2 ^ 24 := of_decide_eq_true hi
    exact ⟨_, if_pos ha, by simp only [decode, decodeCommand, cwOp_commandWord, cwCh_commandWord,
      cwAddr_commandWord, cwData_commandWord, fits ha]; rfl⟩
  | idle | select | reserved01 | reserved05 => exact ⟨_, rfl, by simp [decode, decodeCommand]⟩
  | writeFrame => exact ⟨_, rfl, by simp [decode, decodeFrame]⟩
  | readFrame =>
    have ho : Config.opcRead ≠ Config.opcWrite := by decide
    exact ⟨_, rfl, by simp [decode, decodeFrame, ho]⟩

theorem encode_write (ch data : Byte) (a : Addr) :
    encode (.write ch a.toNat data) = some (.command (commandWord 0x02#8 ch a data)) := by
  rw [encode, if_pos a.isLt, BitVec.ofNat_toNat, BitVec.setWidth_eq]

theorem encode_read (ch data : Byte) (a : Addr) :
    encode (.read ch a.toNat data) = some (.command (commandWord 0x03#8 ch a data)) := by
  rw [encode, if_pos a.isLt, BitVec.ofNat_toNat, BitVec.setWidth_eq]

/-- The word of a command is the one its OP and its fields make up. -/
theorem encode_of_decodeCommand {cw : CommandWord} {i : Instr} (h : decodeCommand cw = .ok i) :
    encode i = some (.command cw) := by
  have word {op : Byte} (ho : cwOp cw = op) :
      some (Code.command (commandWord op (cwCh cw) (cwAddr cw) (cwData cw))) = some (.command cw) := by
    rw [← ho, commandWord_fields]
  unfold decodeCommand at h
  repeat' split at h
  all_goals cases h
  case isTrue ho => exact word ho
  case isFalse.isTrue ho => exact (encode_write _ _ _).trans (word ho)
  case isFalse.isFalse.isTrue ho => exact (encode_read _ _ _).trans (word ho)
  all_goals exact word ‹cwOp cw = _›

/-- Settles O2, by the two formats. -/
theorem encodeOfDecodeIsIdentity : Obligations.EncodeOfDecodeIsIdentity := by
  intro c i h
  cases c with
  | command cw => exact encode_of_decodeCommand h
  | frame f =>
    simp only [decode, decodeFrame] at h
    repeat' split at h
    all_goals cases h
    all_goals
      rename_i ho
      rw [encode, ← ho, frameWord_fields]

/-! ### What the decoder rejects -/

/-- The OP values with a row of the opcode table (R90, R94). -/
theorem op_lt_six {op : Byte} (h : op.toNat < 6) :
    op = 0x00#8 ∨ op = 0x01#8 ∨ op = 0x02#8 ∨ op = 0x03#8 ∨ op = 0x04#8 ∨ op = 0x05#8 := by
  revert op
  decide

theorem decodeCommand_ok {cw : CommandWord} (h : (cwOp cw).toNat < 6) : ∃ i, decodeCommand cw = .ok i := by
  unfold decodeCommand
  rcases op_lt_six h with ho | ho | ho | ho | ho | ho <;> rw [ho] <;> exact ⟨_, rfl⟩

theorem decodeCommand_error {cw : CommandWord} (h : 6 ≤ (cwOp cw).toNat) :
    decodeCommand cw = .error (.reservedOp (cwOp cw)) := by
  have hne {op : Byte} (hop : op.toNat < 6) : cwOp cw ≠ op := by
    rintro rfl
    omega
  unfold decodeCommand
  rw [if_neg (hne (by decide)), if_neg (hne (by decide)), if_neg (hne (by decide)), if_neg (hne (by decide)),
    if_neg (hne (by decide)), if_neg (hne (by decide))]

theorem decodeFrame_ok {f : FrameWord} (h : frameOpc f = Config.opcWrite ∨ frameOpc f = Config.opcRead) :
    ∃ i, decodeFrame f = .ok i := by
  unfold decodeFrame
  rcases h with h | h <;> rw [h] <;> exact ⟨_, rfl⟩

/-- Settles O3: the OP field, and the opcode byte, decide. -/
theorem reservedWordsAreRejectedByName : Obligations.ReservedWordsAreRejectedByName := by
  refine ⟨fun cw => ⟨fun h => ?_, decodeCommand_error⟩, fun cw => decodeCommand_ok,
    fun f => ⟨fun h => ?_, fun ⟨hw, hr⟩ => ?_⟩, fun f => decodeFrame_ok⟩
  · by_contra hlt
    obtain ⟨i, hi⟩ := decodeCommand_ok (Nat.lt_of_not_le hlt)
    cases hi.symm.trans h
  · by_contra hor
    obtain ⟨i, hi⟩ := decodeFrame_ok (f := f) (by tauto)
    cases hi.symm.trans h
  · rw [decodeFrame, if_neg hw, if_neg hr]

/-- Settles O4, word by word. -/
theorem specWordsDecode : Obligations.SpecWordsDecode := by
  unfold Obligations.SpecWordsDecode
  decide

end Sys2Proof.Machine
end

section
/-!
The four lines. What the decoder asserts, what the pins show and what a line write changes (R21, R69,
R88, R110), and the values of the reset state (R36).
-/

namespace Sys2Proof.Machine

/-- Settles O6: the rows, and the closed form by the number of a channel below 8. -/
theorem patternTableRows : Obligations.PatternTableRows :=
  ⟨rfl, rfl, rfl, rfl, rfl, rfl, rfl, rfl, fun c hc => by rw [lineCode_pat, chanOf_setWidth hc],
    fun _ => rfl⟩

/-- An output is asserted exactly if the enable line is and the select lines show it (R29, R69). -/
theorem State.cs_iff (s : State) (k : Chan) : s.cs k = true ↔ s.en = true ∧ s.code = k := by
  cases hen : s.en <;> simp [State.cs, State.sel, State.code, hen]

/-- Settles O7: both other clauses follow from the first. -/
theorem decoderAssertsAtMostOneOutput : Obligations.DecoderAssertsAtMostOneOutput := by
  refine ⟨State.cs_iff, fun s j k hj hk => ?_, fun s hen k => ?_⟩
  · exact ((s.cs_iff j).1 hj).2.symm.trans ((s.cs_iff k).1 hk).2
  · refine eq_false_of_ne_true fun hk => ?_
    exact absurd ((s.cs_iff k).1 hk).1 (ne_true_of_eq_false hen)

/-- Levels the lines have already change nothing (R116). -/
theorem State.driveLines_same (s : State) : s.driveLines s.en s.selLines = s := by
  have hfr : (s.driveLines s.en s.selLines).fr = s.fr := forgetFrames_same s.sel s.fr
  calc s.driveLines s.en s.selLines
      = { s with fr := (s.driveLines s.en s.selLines).fr } := rfl
    _ = s := by rw [hfr]

/-- Settles O8. -/
theorem lineWritesDriveTheirLinesOnly : Obligations.LineWritesDriveTheirLinesOnly :=
  ⟨fun _ _ => rfl, fun _ _ => rfl, fun s => by rw [State.lineWriteEn, State.driveLines_same],
    fun s => by rw [State.lineWriteSel, State.driveLines_same]⟩

/-- Settles O10. -/
theorem enablePinFollowsPolarity : Obligations.EnablePinFollowsPolarity :=
  fun _ => ⟨fun h => if_pos h, fun h => if_neg (ne_true_of_eq_false h)⟩

/-- Settles O37. -/
theorem resetStateValues : Obligations.ResetStateValues :=
  ⟨rfl, rfl, rfl, rfl, rfl, rfl, rfl, rfl, rfl⟩

end Sys2Proof.Machine
end

section
/-!
Transfers and frames. A frame is the transfer of its fifth byte to the asserted device (R68, R70, R71); the
five transfers of a frame, and the step that sends the fifth byte, come to the same (R74).
-/

namespace Sys2Proof.Machine

/-! ### A frame as an instruction -/

section Frame

variable {s : State} {k : Chan} {a : Addr}

theorem exec_writeFrame_device (hd : s.device = some k) (b : Byte) :
    exec (.writeFrame a b) s = .next (s.exchange b (storeReply a b k s)) := by
  simp only [exec, execWriteFrame, hd]

theorem exec_readFrame_device (hd : s.device = some k) (b : Byte) :
    exec (.readFrame a b) s = .next (s.exchange b (loadReply a b k s)) := by
  simp only [exec, execReadFrame, hd]

theorem exec_writeFrame_none (hd : s.device = none) (b : Byte) :
    exec (.writeFrame a b) s = .next (s.exchange b (noDeviceReply s)) := by
  simp only [exec, execWriteFrame, hd]

theorem exec_readFrame_none (hd : s.device = none) (b : Byte) :
    exec (.readFrame a b) s = .next (s.exchange b (noDeviceReply s)) := by
  simp only [exec, execReadFrame, hd]

/-- In capacity the fifth byte of a write frame is stored (R68). -/
theorem storeReply_inCapacity (h : a.toNat < capOf s.cfg k) (tx : Byte) :
    storeReply a tx k s = ⟨Config.freeByte s.draws, s.mem.write k a tx, s.received k tx, s.draws + 1⟩ := by
  rw [storeReply, inCapacity, if_pos (decide_eq_true h)]

/-- In capacity the fifth byte of a read frame is answered by the byte stored (R68). -/
theorem loadReply_inCapacity (h : a.toNat < capOf s.cfg k) (tx : Byte) :
    loadReply a tx k s = ⟨s.dev k a, s.mem, s.received k tx, s.draws⟩ := by
  rw [loadReply, inCapacity, if_pos (decide_eq_true h)]

/-- What a store does is a store at its own device (R51). -/
theorem storeReply_stores {ch : Byte} (hk : chanOf ch = k) (tx : Byte) :
    Stores s.cfg ch a s.mem (storeReply a tx k s).mem := by
  subst hk
  exact ⟨_, _, rfl⟩

end Frame

/-- No device takes part where no output is asserted, or one without a device (R70, R71). -/
theorem device_none {s : State} (h : s.sel = none ∨ ∃ k, s.sel = some k ∧ s.cfg.nCh ≤ k.toNat) :
    s.device = none := by
  unfold State.device
  rcases h with h | ⟨k, h, hk⟩
  · rw [h]
  · simp only [h, if_neg (Nat.not_lt.2 hk)]

/-- Settles O22. -/
theorem writeFrameCompletes : Obligations.WriteFrameCompletes := by
  intro s k addr data hd hcap
  rw [exec_writeFrame_device hd, storeReply_inCapacity hcap]
  exact ⟨_, _, rfl⟩

/-- Settles O23. -/
theorem readFrameCompletes : Obligations.ReadFrameCompletes := by
  intro s k addr dummy hd hcap
  rw [exec_readFrame_device hd, loadReply_inCapacity hcap]
  rfl

/-- Settles O24. -/
theorem frameWithoutDeviceReachesNone : Obligations.FrameWithoutDeviceReachesNone := by
  intro s addr b h
  have hd := device_none h
  exact ⟨⟨_, _, exec_writeFrame_none hd b⟩, ⟨_, _, exec_readFrame_none hd b⟩⟩

/-- Settles O25: beyond the capacity cells of the asserted device change, in a write frame only. -/
theorem frameBeyondCapacityIsTheDevices : Obligations.FrameBeyondCapacityIsTheDevices := by
  intro s k addr b hd hcap
  have hout : inCapacity s.cfg k addr ≠ true := fun h => Nat.not_le.2 (of_decide_eq_true h) hcap
  refine ⟨⟨_, _, _, exec_writeFrame_device hd b, fun j a hj => ?_⟩, ⟨_, exec_readFrame_device hd b⟩⟩
  rw [storeReply]
  simp only [if_neg hout]
  exact Memory.writeCells_read_other s.mem hj _ a

/-! ### A frame byte by byte -/

/-- A header byte is added to what the device has received, and that is all the device does (R68). -/
theorem xfer_early_effect {s : State} {k : Chan} (hd : s.device = some k) (hl : (s.frameOf k).length ≤ 3)
    (tx : Byte) :
    (s.xfer false tx).device = some k ∧ (s.xfer false tx).frameOf k = s.frameOf k ++ [tx] ∧
      (s.xfer false tx).mem = s.mem := by
  rw [xfer_early hd hl]
  exact ⟨hd, by simp [State.frameOf, earlyReply, State.received], rfl⟩

/-- The four transfers of the opcode and the address. -/
def State.sendHeader (s : State) (opc : Byte) (a : Addr) : State :=
  (((s.xfer false opc).xfer false (addrByte2 a)).xfer false (addrByte1 a)).xfer false (addrByte0 a)

/-- After them the device has received the header, and its memory is as it was (R68). -/
theorem sendHeader_effect {s : State} {k : Chan} (hd : s.device = some k) (hf : s.frameOf k = [])
    (opc : Byte) (a : Addr) :
    (s.sendHeader opc a).device = some k ∧
      (s.sendHeader opc a).frameOf k = [opc, addrByte2 a, addrByte1 a, addrByte0 a] ∧
      (s.sendHeader opc a).mem = s.mem := by
  obtain ⟨hd1, hf1, hm1⟩ := xfer_early_effect hd (by simp [hf]) opc
  rw [hf] at hf1
  obtain ⟨hd2, hf2, hm2⟩ := xfer_early_effect hd1 (by simp [hf1]) (addrByte2 a)
  rw [hf1] at hf2
  obtain ⟨hd3, hf3, hm3⟩ := xfer_early_effect hd2 (by simp [hf2]) (addrByte1 a)
  rw [hf2] at hf3
  obtain ⟨hd4, hf4, hm4⟩ := xfer_early_effect hd3 (by simp [hf3]) (addrByte0 a)
  rw [hf3] at hf4
  exact ⟨hd4, hf4, hm4.trans (hm3.trans (hm2.trans hm1))⟩

/-- Settles O26: the header, then the store or the load. -/
theorem fiveTransfersRunTheFrame : Obligations.FiveTransfersRunTheFrame := by
  intro s k addr data hd hf hcap
  have write : ((s.sendHeader 0x02#8 addr).xfer false data).mem = s.mem.write k addr data := by
    obtain ⟨hd', hf', hmem⟩ := sendHeader_effect hd hf 0x02#8 addr
    rw [xfer_writeFrame hd' hf', storeReply_inCapacity (s := s.sendHeader 0x02#8 addr) hcap,
      State.exchange_mem, hmem]
  obtain ⟨hd', hf', hmem⟩ := sendHeader_effect hd hf 0x03#8 addr
  have read := xfer_readFrame hd' hf' data
  rw [loadReply_inCapacity (s := s.sendHeader 0x03#8 addr) hcap] at read
  refine ⟨write, (congrArg State.mem read).trans hmem, (congrArg State.rx read).trans ?_⟩
  rw [State.exchange_rx, State.dev, hmem]
  rfl

/-- The last byte of a frame is the fifth sent (R81). -/
theorem frameLast_frameOfBytes (b0 b1 b2 b3 b4 : Byte) : frameLast (frameOfBytes b0 b1 b2 b3 b4) = b4 :=
  Option.some.inj (congrArg List.getLast? (frameBytes_frameOfBytes b0 b1 b2 b3 b4))

/-- Which frame is decoded (R82). -/
theorem decodeFrame_cases {f : FrameWord} {i : Instr} (h : decodeFrame f = .ok i) :
    i = .writeFrame (frameAddr f) (frameLast f) ∨ i = .readFrame (frameAddr f) (frameLast f) := by
  unfold decodeFrame at h
  split at h
  · cases h; exact .inl rfl
  · split at h
    · cases h; exact .inr rfl
    · cases h

/-- The transfer of the fifth byte is the frame it completes (R68). -/
theorem xfer_runs_frame {s u : State} {k : Chan} {b0 b1 b2 b3 tx : Byte} {i : Instr}
    (hd : s.device = some k) (hf : s.frameOf k = [b0, b1, b2, b3])
    (hdec : decodeFrame (frameOfBytes b0 b1 b2 b3 tx) = .ok i) (hrun : exec i s = .next u) :
    s.xfer false tx = u := by
  have hx : s.xfer false tx = s.exchange tx (frameReply b0 b1 b2 b3 tx k s) := by
    simp only [State.xfer, busReply, hd, Bool.false_eq_true, if_false, deviceReply, hf]
  have hlast := frameLast_frameOfBytes b0 b1 b2 b3 tx
  rw [hx]
  rcases decodeFrame_cases hdec with rfl | rfl
  · rw [exec_writeFrame_device hd, hlast] at hrun
    rw [hlast] at hdec
    simp only [frameReply, hdec]
    exact Host.Outcome.next.inj hrun
  · rw [exec_readFrame_device hd, hlast] at hrun
    rw [hlast] at hdec
    simp only [frameReply, hdec]
    exact Host.Outcome.next.inj hrun

/-- Settles O28: phase 7 is the transfer of the fifth byte and the move to phase 8. -/
theorem stepRunsTheFrameReceived : Obligations.StepRunsTheFrameReceived := by
  intro s u k b0 b1 b2 b3 i hph hq hd hf
  have hstep : step s = s.envNext.phaseAction false := by
    rw [step_unfetched (fetch_busy (by simp [hph])), seqStep_quiet hq]
  refine ⟨fun ho hdec hrun => ?_, fun ho hdec hrun => ?_⟩
  · have hx : s.envNext.xfer false s.wd = u := xfer_runs_frame (s := s.envNext) hd hf hdec hrun
    rw [hstep, phaseAction_dat_write (s := s.envNext) hph ho, State.envNext_wd, hx]
    rfl
  · have hx : s.envNext.xfer false s.cfg.dummyByte = u := xfer_runs_frame (s := s.envNext) hd hf hdec hrun
    rw [hstep, phaseAction_dat_read (s := s.envNext) hph ho, State.envNext_cfg, hx]

end Sys2Proof.Machine
end

section
/-!
Single steps. A step in phase 0 waits or runs the word it takes (R152, R156, R158); with every input low
each phase performs its row (R151); an abort and a reset, by the lemmas about what they change (R154, R200).
-/

namespace Sys2Proof.Machine

/-! ### Phase 0 -/

/-- Settles O27. -/
theorem stepRunsTheCommandPresented : Obligations.StepRunsTheCommandPresented := by
  intro s cw rest i hw hr hp hdec
  have hdec : decodeCommand cw = .ok i := hdec
  simp only [step, fetch_presented hw hr hp, hdec]
  rfl

/-- With no word presented the sequencer waits (R158). -/
theorem seqStep_waits {s : State} (hw : s.ph = .wait) (hr : s.envNow.reset = false) (hp : s.port = []) :
    seqStep s = .next s.envNext := by
  rw [seqStep_wait hw hr]
  simp [State.acceptPhase, hp]

/-- Settles O29. -/
theorem stepWaitsWithoutCommand : Obligations.StepWaitsWithoutCommand :=
  fun _ hw hr hp => (step_unfetched (fetch_noWord hp)).trans (seqStep_waits hw hr hp)

/-- The word presented goes through the boundary (R152). -/
theorem seqStep_takes {s : State} {cw : CommandWord} {rest : List CommandWord} (hw : s.ph = .wait)
    (hr : s.envNow.reset = false) (hp : s.port = cw :: rest) :
    seqStep s = .next
      ((s.envNext.takeWord cw rest).boundary (cwOp cw) (cwCh cw) (cwAddr cw).toNat (cwData cw)) := by
  rw [seqStep_wait hw hr]
  simp [State.acceptPhase, hp]

/-- An admitted word loads the latches (R24, R152). -/
theorem seqStep_accepts {s : State} {cw : CommandWord} {rest : List CommandWord} (hw : s.ph = .wait)
    (hr : s.envNow.reset = false) (hp : s.port = cw :: rest)
    (hb : boundaryStatus (cwOp cw) (cwCh cw) (cwAddr cw).toNat s = statusOk) :
    seqStep s = .next
      { s with
        opl := cwOp cw
        ch := cwCh cw
        addr := cwAddr cw
        wd := cwData cw
        st := 0
        ph := if cwOp cw = 0x00#8 then .release else .setSel
        port := rest
        env := s.env.tail
        trace := s.trace ++ [.cmd cw] } := by
  rw [seqStep_takes hw hr hp, boundary_admitted (s := s.envNext.takeWord cw rest) hb]
  simp [State.accept, State.takeWord, State.envNext, statusOk]

/-- A refused word is answered, and only the word and the inputs of the step are used up (R152, R179). -/
theorem seqStep_refuses {s : State} {cw : CommandWord} {rest : List CommandWord} {st : Byte}
    (hw : s.ph = .wait) (hr : s.envNow.reset = false) (hp : s.port = cw :: rest)
    (hb : boundaryStatus (cwOp cw) (cwCh cw) (cwAddr cw).toNat s = st) (hst : st ≠ statusOk) :
    ∃ rd d, seqStep s = .next
      { s with
        port := rest
        env := s.env.tail
        draws := d
        trace := s.trace ++ [.cmd cw, .rsp st rd] } := by
  subst hb
  refine ⟨Config.freeByte s.draws, s.draws + 1, ?_⟩
  rw [seqStep_takes hw hr hp, boundary_refused (s := s.envNext.takeWord cw rest) hst]
  simp only [State.respondFree, State.takeWord, State.envNext, List.append_assoc]
  rfl

/-- IDLE meets no condition (R112). -/
theorem boundaryStatus_idle (ch : Byte) (addr : Nat) (s : State) :
    boundaryStatus 0x00#8 ch addr s = statusOk := by
  rw [boundaryStatus, if_neg (by decide), if_pos rfl]

/-- A SELECT, WRITE or READ is a command that takes a channel (R90). -/
theorem takesChannel {op : Byte} (ho : op = 0x02#8 ∨ op = 0x03#8 ∨ op = 0x04#8) :
    isCommandOp op = true ∧ op ≠ 0x00#8 := by
  rcases ho with rfl | rfl | rfl <;> decide

/-- A SELECT, WRITE or READ word of a valid channel with no other asserted is admitted (R152). -/
theorem boundaryStatus_word_ok {s : State} {cw : CommandWord}
    (ho : cwOp cw = 0x02#8 ∨ cwOp cw = 0x03#8 ∨ cwOp cw = 0x04#8) (hch : (cwCh cw).toNat < s.cfg.nCh)
    (hm : s.MaySelect (cwCh cw)) :
    boundaryStatus (cwOp cw) (cwCh cw) (cwAddr cw).toNat s = statusOk := by
  by_cases h4 : cwOp cw = 0x04#8
  · rw [h4]
    exact boundaryStatus_select hch hm
  · exact boundaryStatus_transaction (by tauto) hch (cwAddr cw).isLt hm

/-! ### The rows of the table -/

/-- Settles O31, row by row. -/
theorem phaseTableRows : Obligations.PhaseTableRows := by
  intro s hq
  have hr : s.envNow.reset = false := by rw [hq]; rfl
  have row {t : State} (ht : s.envNext.phaseAction false = .next t) : seqStep s = .next t :=
    (seqStep_quiet hq).trans ht
  refine ⟨fun hw hp => seqStep_waits hw hr hp, fun cw rest hw hp =>
    ⟨fun h0 => ?idle, fun ho hch hm => ?admitted, fun h0 h2 h3 h4 => ?reserved, fun ho hch => ?noChannel,
      fun ho hch hm => ?conflict⟩,
    fun hph => ⟨_, row (phaseAction_setSel hph), rfl, rfl, rfl, rfl⟩,
    fun hph ho => ⟨_, row (phaseAction_enable hph (p := .respond) ?select), rfl, rfl, rfl, rfl⟩,
    fun hph ho => ⟨_, row (phaseAction_enable hph (p := .opc) ?transaction), rfl, rfl, rfl, rfl⟩,
    fun hph => ⟨_, _, row (phaseAction_opc hph), rfl, rfl, rfl⟩,
    fun hph => ⟨_, _, row (phaseAction_a2 hph), rfl, rfl, rfl⟩,
    fun hph => ⟨_, _, row (phaseAction_a1 hph), rfl, rfl, rfl⟩,
    fun hph => ⟨_, _, row (phaseAction_a0 hph), rfl, rfl, rfl⟩,
    fun hph ho => ⟨_, _, row (phaseAction_dat_write hph ho), rfl, rfl, rfl⟩,
    fun hph ho => ⟨_, _, row (phaseAction_dat_read hph ho), rfl, rfl, rfl⟩,
    fun hph => ⟨_, row (phaseAction_release hph), rfl, rfl, rfl, rfl⟩, fun hph => ?respond⟩
  case idle =>
    rw [seqStep_accepts hw hr hp (by rw [h0]; exact boundaryStatus_idle _ _ s), if_pos h0]
  case admitted =>
    rw [seqStep_accepts hw hr hp (boundaryStatus_word_ok ho hch hm), if_neg (takesChannel ho).2]
  case reserved =>
    have hop : isCommandOp (cwOp cw) = false := by simp [isCommandOp, h0, h2, h3, h4]
    exact seqStep_refuses hw hr hp (boundaryStatus_reserved hop _ _ s) (by decide)
  case noChannel =>
    obtain ⟨hc, h0⟩ := takesChannel ho
    exact seqStep_refuses hw hr hp (boundaryStatus_invalidChannel hc h0 hch) (by decide)
  case conflict =>
    obtain ⟨hc, h0⟩ := takesChannel ho
    have hconflict : s.en = true ∧ s.code.setWidth 8 ≠ cwCh cw := by simpa [State.MaySelect] using hm
    exact seqStep_refuses hw hr hp
      (boundaryStatus_selectConflict hc h0 hch (fun _ => (cwAddr cw).isLt) hconflict) (by decide)
  case select => rw [State.envNext_opl, ho]; rfl
  case transaction => rcases ho with ho | ho <;> rw [State.envNext_opl, ho] <;> rfl
  case respond =>
    have hrow := row (phaseAction_respond hph)
    rcases respondLatched_cases s.envNext with ⟨-, -, h⟩ | ⟨hno, h⟩
    · exact ⟨_, s.rd, hrow, rfl, by rw [h]; rfl, by rw [h]; rfl, fun _ _ => rfl⟩
    · exact ⟨_, Config.freeByte s.draws, hrow, rfl, by rw [h]; rfl, by rw [h]; rfl,
        fun ho hst => absurd ⟨ho, hst⟩ hno⟩

/-! ### Abort and reset -/

/-- Settles O35. -/
theorem lateAbortIsDropped : Obligations.LateAbortIsDropped := by
  intro s r f rest hph
  have hna : s.ph.abortable = false := by rcases hph with h | h | h <;> rw [h] <;> rfl
  cases r with
  | true => rfl
  | false =>
    rw [seqStep_action (s := { s with env := ⟨true, false, f⟩ :: rest }) rfl (.inr hna),
      seqStep_action (s := { s with env := ⟨false, false, f⟩ :: rest }) rfl (.inr hna)]
    rfl

/-- Settles O34, by what an interrupted command does to memory. -/
theorem abortIsTakenAtPhaseEntry : Obligations.AbortIsTakenAtPhaseEntry := by
  intro s ha hr h1 h7
  exact ⟨_, seqStep_abort hr ha (decide_eq_true ⟨h1, h7⟩), rfl, rfl, rfl, rfl, rfl, rfl, rfl, rfl, rfl, rfl,
    rfl, rfl, rfl, fun h => interruptedMem_of_idle (s := s.envNext) (writeInProgress_false h),
    fun hcap j a hne => interruptedMem_read_elsewhere (s := s.envNext) hcap hne,
    fun j a hj => interruptedMem_read_other s.envNext hj a⟩

/-- Settles O36, by what a reset does to the lines and an interrupted command to memory. -/
theorem resetFromAnyState : Obligations.ResetFromAnyState := by
  intro s hr
  have hstep : step s = .next s.envNext.takeReset :=
    (step_unfetched (fetch_reset hr)).trans (seqStep_reset hr)
  exact ⟨_, hstep, rfl, rfl, rfl, rfl, rfl, rfl, rfl, rfl, rfl, rfl, rfl, rfl,
    State.takeReset_fr s.envNext,
    fun h => interruptedMem_of_idle (s := s.envNext) (writeInProgress_false h),
    fun hcap j a hne => interruptedMem_read_elsewhere (s := s.envNext) hcap hne,
    fun j a hj => interruptedMem_read_other s.envNext hj a⟩

end Sys2Proof.Machine
end

section
/-!
Commands that nothing cuts short, with the whole state they end in. SELECT and IDLE are run phase by
phase; a WRITE or READ is the transaction settled up to its fifth byte in the family of
41_memory_transactions.md, and the rest (R111, R112, R131, R132).
-/

namespace Sys2Proof.Machine

/-! ### SELECT and IDLE -/

/-- Phases 1 and 2 of a command whose channel may be asserted already: then the devices keep what they have
received, and otherwise they have received nothing (R68, R111, R116). -/
theorem runPhases_lines {s : State} {p : Phase} (hph : s.ph = .setSel) (hm : s.MaySelect s.ch)
    (hp : afterEnable s.opl = some p) (hu : s.Undisturbed 2) (n : Nat) :
    runPhases (n + 2) s =
      runPhases n { s.selected p with fr := if s.en = true then s.fr else noFrames } := by
  have hu1 : ∀ e ∈ s.env.tail.take 1, e = EnvIn.quiet := env_next hu
  have hsel : s.envNext.phaseAction false =
      .next ((s.envNext.lineWriteSel (pat s.ch)).goto .enable) := phaseAction_setSel hph
  rw [runPhases_quiet (by rw [hph]; decide) hu hsel,
    runPhases_quiet (s := (s.envNext.lineWriteSel (pat s.ch)).goto .enable) (by simp) hu1
      (phaseAction_enable rfl hp)]
  have hsame : forgetFrames (decoder s.en s.selLines) (decoder s.en (pat s.ch)) s.fr = s.fr :=
    forgetFrames_selection hm
  have hnew : forgetFrames (decoder s.en (pat s.ch)) (some (chanOf s.ch)) s.fr =
      if s.en = true then s.fr else noFrames := by
    cases s.en with
    | false => exact forgetFrames_change (by simp) _
    | true => rw [decoder_true, lineCode_pat, forgetFrames_same, if_pos rfl]
  simp [State.selected, State.goto, State.lineWriteSel, State.lineWriteEn, State.emit, State.driveLines,
    State.envNext, State.sel, hsame, hnew, ← List.drop_one]

/-- Settles O13: phases 1 and 2, then the response. -/
theorem selectCompletes : Obligations.SelectCompletes := by
  intro s ch addr data hw hch hm hu
  let t := (s.accept 0x04#8 ch addr.toNat data).selected .respond
  let u := { t with fr := if s.en = true then s.fr else noFrames }
  have hlines : runPhases 9 (s.accept 0x04#8 ch addr.toNat data) = runPhases 7 u :=
    runPhases_lines (s := s.accept 0x04#8 ch addr.toNat data) rfl hm rfl (hu.mono (by decide)) 7
  have hu' : u.Undisturbed 1 := State.Undisturbed.drop 2 hu rfl
  have hrun : exec (.select ch addr data) s = .next (u.envNext.respondFree statusOk).endCommand := by
    refine (runCommand_admitted hw (boundaryStatus_select hch hm)).trans (hlines.trans ?_)
    rw [runPhases_quiet (s := u) (by simp [u, t, State.selected]) hu' (phaseAction_respond rfl),
      runPhases_wait rfl]
    rfl
  refine ⟨Config.freeByte s.draws, s.draws + 1, hrun.trans ?_⟩
  simp [u, t, State.selected, State.respondFree, State.endCommand, State.envNext, statusOk, hw]

/-- Settles O14: the pattern of the channel asserted is what the lines show. -/
theorem reselectChangesNoLine : Obligations.ReselectChangesNoLine := by
  intro s ch addr data hw hch hen hcode hu
  obtain ⟨rd, d, hrun⟩ := selectCompletes s ch addr data hw hch (fun _ => hcode) hu
  have hpat : pat ch = s.selLines := pat_of_code hcode
  exact ⟨_, rd, hrun, hen.symm, hpat, if_pos hen, rfl, by rw [hpat]⟩

/-- A step without a reset in a phase where no abort is looked at performs the phase's action (R154). -/
theorem runPhases_unabortable {s t : State} {n : Nat} (hw : s.ph ≠ .wait) (hna : s.ph.abortable = false)
    (hnr : s.NoReset (n + 1)) (ht : s.envNext.phaseAction s.envNow.busFault = .next t) (m : Nat) :
    runPhases (m + 1) s = runPhases m t :=
  runPhases_step hw ((seqStep_action (eq_false_of_ne_true hnr.now) (.inr hna)).trans ht) m

/-- Settles O15: phases 8 and 9, in which an abort is dropped. -/
theorem idleCompletes : Obligations.IdleCompletes := by
  intro s ch addr data hw hnr
  let t := s.accept 0x00#8 ch addr.toNat data
  let u := (t.envNext.lineWriteEn false).goto .respond
  have hnr1 : u.NoReset 1 := env_next hnr
  have hrun : exec (.idle ch addr data) s = .next (u.envNext.respondFree statusOk).endCommand := by
    refine (runCommand_admitted hw (boundaryStatus_idle ch addr.toNat s)).trans ?_
    rw [runPhases_unabortable (s := t) (t := u) accept_ph_ne_wait rfl hnr (phaseAction_release rfl),
      runPhases_unabortable (s := u) (by simp [u]) rfl hnr1 (phaseAction_respond rfl),
      runPhases_wait rfl]
    rfl
  have hfr : forgetFrames (decoder s.en s.selLines) none s.fr = if s.en = true then noFrames else s.fr := by
    cases s.en with
    | false => exact forgetFrames_same none s.fr
    | true => exact forgetFrames_change (by simp) s.fr
  refine ⟨Config.freeByte s.draws, s.draws + 1, hrun.trans ?_⟩
  simp [u, t, State.accept, State.lineWriteEn, State.driveLines, State.emit, State.goto, State.respondFree,
    State.endCommand, State.envNext, State.sel, statusOk, hfr, hw, ← List.drop_one]

/-! ### WRITE and READ -/

/-- Settles O16: the state after a WRITE, written out. -/
theorem writeCompletes : Obligations.WriteCompletes := by
  intro s ch addr data hw h8 hch hm hu hcap hfr
  have hrun := execWrite_completes (data := data) hw h8 hch hm hu hcap hfr
  rw [State.afterWrite, State.transactionEvents, List.append_assoc] at hrun
  exact ⟨_, _, _, _, _, _, _, hrun⟩

/-- Settles O17: the state after a READ, written out. -/
theorem readCompletes : Obligations.ReadCompletes := by
  intro s ch addr data hw h8 hch hm hu hcap hfr
  have hrun := execRead_completes (data := data) hw h8 hch hm hu hcap hfr
  rw [State.afterRead, State.transactionEvents, List.append_assoc] at hrun
  exact ⟨_, _, _, _, _, hrun⟩

/-- The events of an undisturbed WRITE or READ up to its release, whatever came back for its fifth byte
(R131, R132). -/
theorem released_trace {s u : State} {op ch tx rx data : Byte} {addr : Addr}
    (hu : u.trace = (s.beforeLastByte op ch addr data).trace ++ [.xf tx rx]) :
    u.released.trace = s.trace ++ s.transactionEvents op ch addr tx rx := by
  simp [State.released, hu, State.transactionEvents, State.beforeLastByte, State.headerSent, State.selected]

section Transaction

variable {s : State} {ch : Byte} {addr : Addr} {data : Byte} (hw : s.ph = .wait) (h8 : s.cfg.nCh ≤ 8)
  (hch : ch.toNat < s.cfg.nCh) (hm : s.MaySelect ch) (hu : s.Undisturbed 9)
  (hfr : s.en = true → s.fr = noFrames)
include hw h8 hch hm hu hfr

/-- An undisturbed WRITE, in capacity or not: the fifth byte is for the device to store (R51, R131). -/
theorem execWrite_runs :
    ∃ t rx rd, exec (.write ch addr.toNat data) s = .next t ∧
      t.trace = s.trace ++ s.transactionEvents 0x02#8 ch addr data rx ++ [.rsp 0 rd] ∧
      t.en = false ∧ t.selLines = pat ch ∧ t.ph = .wait ∧ Stores s.cfg ch addr s.mem t.mem := by
  let t := (s.beforeLastByte 0x02#8 ch addr data).envNext
  let r := storeReply addr data (chanOf ch) t
  let u := (t.exchange data r).goto .release
  have hact := phaseAction_dat_write (s := t) (b := false) rfl rfl
  rw [xfer_writeFrame (s := t) (a := addr) (State.beforeLastByte_device _ h8 hch)
    (State.beforeLastByte_frameOf _)] at hact
  have hrun := runCommand_transaction (data := data) (addr := addr) (.inl rfl) hw h8 hch hm hu hfr
  rw [runPhases_lastByte (t := u) rfl hact rfl rfl rfl (State.beforeLastByte_undisturbed _ hu)] at hrun
  have hresp : u.released.envNext.respondLatched = u.released.envNext.respondFree statusOk := rfl
  rw [hresp] at hrun
  exact ⟨_, r.rx, _, hrun, congrArg (· ++ [Event.rsp 0 (Config.freeByte u.draws)]) (released_trace rfl),
    rfl, rfl, rfl, storeReply_stores (s := t) rfl data⟩

/-- An undisturbed READ, in capacity or not: the byte that comes back is the one answered (R51, R132). -/
theorem execRead_runs :
    ∃ t rx, exec (.read ch addr.toNat data) s = .next t ∧
      t.trace = s.trace ++ s.transactionEvents 0x03#8 ch addr s.cfg.dummyByte rx ++ [.rsp 0 rx] ∧
      t.en = false ∧ t.selLines = pat ch ∧ t.ph = .wait ∧ t.mem = s.mem := by
  let t := (s.beforeLastByte 0x03#8 ch addr data).envNext
  let r := loadReply addr s.cfg.dummyByte (chanOf ch) t
  let u := { t.exchange s.cfg.dummyByte r with rd := r.rx, ph := .release }
  have hact := phaseAction_dat_read (s := t) (b := false) rfl rfl
  rw [xfer_readFrame (s := t) (a := addr) (State.beforeLastByte_device _ h8 hch)
    (State.beforeLastByte_frameOf _)] at hact
  have hrun := runCommand_transaction (data := data) (addr := addr) (.inr rfl) hw h8 hch hm hu hfr
  rw [runPhases_lastByte (t := u) rfl hact rfl rfl rfl (State.beforeLastByte_undisturbed _ hu)] at hrun
  have hresp : u.released.envNext.respondLatched = u.released.envNext.emit (.rsp statusOk r.rx) := rfl
  rw [hresp] at hrun
  exact ⟨_, r.rx, hrun, congrArg (· ++ [Event.rsp 0 r.rx]) (released_trace rfl), rfl, rfl, rfl, rfl⟩

end Transaction

/-- Settles O18: neither run looks at the capacity; a store is at the command's own device. -/
theorem capacityIsNotChecked : Obligations.CapacityIsNotChecked := by
  intro s ch addr data hw h8 hch hm hu _ hfr
  obtain ⟨t, rx, rd, hrun, htrace, hen, hsel, hph, hmem⟩ :=
    execWrite_runs (addr := addr) (data := data) hw h8 hch hm hu hfr
  obtain ⟨t', rx', hrun', htrace', hlines⟩ :=
    execRead_runs (addr := addr) (data := data) hw h8 hch hm hu hfr
  rw [List.append_assoc] at htrace htrace'
  exact ⟨⟨t, _, _, _, _, _, _, hrun, htrace, hen, hsel, hph, fun j a hj => hmem.read_other hj a⟩,
    ⟨t', _, _, _, _, _, hrun', htrace', hlines⟩⟩

/-- Settles O19: the two clauses of the boundary conditions. -/
theorem reservedOperationsAnswerIllegal : Obligations.ReservedOperationsAnswerIllegal := by
  intro s ch addr data hw
  obtain ⟨-, -, -, h01, h05⟩ := boundaryConditionsInOrder s ch addr 0 data hw
  exact ⟨h01, h05⟩

end Sys2Proof.Machine
end
